-- ==== Sys2Proof/Word.lean ====
section
/-! DEFINITION. The widths the spec gives its values (00_scope.md R6 to R9). -/

namespace Sys2Proof

/-- A byte on the wire, a sensor register pointer, a transport end status or an available count (R6, R7, R11). -/
abbrev Byte := BitVec 8

/-- A sensor register word, or the 16-bit two's-complement error code (R6, R7). -/
abbrev Word16 := BitVec 16

/-- A host-visible register or a command word (R7, R20, R80). -/
abbrev Word32 := BitVec 32

/-- A bus device address (R6: DEV_ADDR_BITS = 7). -/
abbrev DevAddr := BitVec 7

/-- A byte offset into the host window (R7: HOST_OFFSET_BITS = 8). -/
abbrev Offset := BitVec 8

/-- The operation field of a command (R80). -/
abbrev Op := BitVec 4

end Sys2Proof
end

