-- ==== Sys2Proof/Syntax.lean ====
section
/-! DEFINITION. The command format (30_encoding.md R80), the register pointers (R82), the operations (R83) and one constructor
for each row of spec/opcode_table.json. -/

namespace Sys2Proof

/-- A command word taken apart into its four fields (R80). -/
structure Command where
  op   : Op
  rsv  : BitVec 4
  ptr  : Byte
  data : Word16
deriving DecidableEq, Repr

/-! The sensor register pointers (R82). -/

namespace Pointer

def result  : Byte := 0x00#8
def config  : Byte := 0x01#8
def lowlim  : Byte := 0x02#8
def highlim : Byte := 0x03#8
def mfrid   : Byte := 0x7E#8
def devid   : Byte := 0x7F#8

/-- The closed set of six pointers (R82; PTRS6 of R86). -/
def six : List Byte := [result, config, lowlim, highlim, mfrid, devid]

end Pointer

/-! The operation codes (R83). -/

namespace OpCode

def wrcmd  : Op := 0x1#4
def wrword : Op := 0x2#4
def rdword : Op := 0x3#4
def regrd  : Op := 0x4#4
def rdid   : Op := 0x5#4
def rdcfg  : Op := 0x6#4
def wrcfg  : Op := 0x7#4
def rdmeas : Op := 0x8#4

end OpCode

/-- The commands of the block, one constructor for each row of the opcode table (R83, R84). -/
inductive Instr
  /-- WRCMD RESULT (R106). -/
  | wrcmdResult
  /-- WRCMD CONFIG (R106). -/
  | wrcmdConfig
  /-- WRCMD LOWLIM (R106). -/
  | wrcmdLowlim
  /-- WRCMD HIGHLIM (R106). -/
  | wrcmdHighlim
  /-- WRCMD MFRID (R106). -/
  | wrcmdMfrid
  /-- WRCMD DEVID (R106). -/
  | wrcmdDevid
  /-- WRWORD CONFIG (R107). -/
  | wrwordConfig (data : Word16)
  /-- RDWORD (R108). -/
  | rdword
  /-- REGRD RESULT (R109). -/
  | regrdResult
  /-- REGRD CONFIG (R109). -/
  | regrdConfig
  /-- REGRD LOWLIM (R109). -/
  | regrdLowlim
  /-- REGRD HIGHLIM (R109). -/
  | regrdHighlim
  /-- REGRD MFRID (R109). -/
  | regrdMfrid
  /-- REGRD DEVID (R109). -/
  | regrdDevid
  /-- RDID MFRID (R140). -/
  | rdidMfrid
  /-- RDID DEVID (R140). -/
  | rdidDevid
  /-- RDCFG (R141). -/
  | rdcfg
  /-- WRCFG (R142). -/
  | wrcfg (data : Word16)
  /-- RDMEAS RESULT (R143). -/
  | rdmeasResult
  /-- RDMEAS LOWLIM (R143). -/
  | rdmeasLowlim
  /-- RDMEAS HIGHLIM (R143). -/
  | rdmeasHighlim
deriving DecidableEq, Repr

end Sys2Proof
end

