-- ==== Sys2Proof/WellFormed.lean ====
section
/-! DEFINITION. The operand constraints of a command's fields, one check for each ground of 30_encoding.md R85. -/

namespace Sys2Proof.Command

/-- The OP is not reserved (R83, R85: reserved are 0x0 and 0x9..0xF). -/
def opWellFormed (c : Command) : Bool :=
  c.op ∈ [OpCode.wrcmd, OpCode.wrword, OpCode.rdword, OpCode.regrd, OpCode.rdid, OpCode.rdcfg, OpCode.wrcfg, OpCode.rdmeas]

/-- RSV must be 0 (R80, R85). -/
def rsvWellFormed (c : Command) : Bool := c.rsv == 0#4

/-- The pointers R84 allows an OP. A reserved OP allows none. -/
def allowedPtrs (op : Op) : List Byte :=
  if op = OpCode.wrcmd ∨ op = OpCode.regrd then Pointer.six
  else if op = OpCode.wrword ∨ op = OpCode.rdcfg ∨ op = OpCode.wrcfg then [Pointer.config]
  else if op = OpCode.rdword then [0x00#8]
  else if op = OpCode.rdid then [Pointer.mfrid, Pointer.devid]
  else if op = OpCode.rdmeas then [Pointer.result, Pointer.lowlim, Pointer.highlim]
  else []

/-- The PTR is in its OP's row (R84, R85). -/
def ptrWellFormed (c : Command) : Bool := c.ptr ∈ allowedPtrs c.op

/-- DATA is 0 unless the OP's row takes a word (R84, R85). -/
def dataWellFormed (c : Command) : Bool :=
  c.op == OpCode.wrword || c.op == OpCode.wrcfg || c.data == 0#16

/-- All four checks of R85. -/
def wellFormed (c : Command) : Bool :=
  c.opWellFormed && c.rsvWellFormed && c.ptrWellFormed && c.dataWellFormed

end Sys2Proof.Command
end

