-- ==== Sys2Proof/Decode.lean ====
section
/-! DEFINITION. The decoder of command words, total on all 32-bit words, and after it the encoder (30_encoding.md R80 to R86). -/

namespace Sys2Proof

/-- Why a word is no command: the four grounds of R85. Every one of them raises ILLEGAL (R183). -/
inductive DecodeError
  | reservedOp
  | rsvNonzero
  | ptrNotAllowed
  | dataNonzero
deriving DecidableEq, Repr

/-- The fields of a command word (R80). -/
def commandOfWord (v : Word32) : Command :=
  { op := v.extractLsb' 0 4, rsv := v.extractLsb' 4 4, ptr := v.extractLsb' 8 8, data := v.extractLsb' 16 16 }

/-- The command word of four fields (R80: DATA ++ PTR ++ RSV ++ OP). -/
def wordOfCommand (c : Command) : Word32 := c.data ++ c.ptr ++ c.rsv ++ c.op

/-- The legality check of R86, clause by clause. -/
def legal (v : Word32) : Bool :=
  let op := v.extractLsb' 0 4
  let rsv := v.extractLsb' 4 4
  let p := v.extractLsb' 8 8
  let d := v.extractLsb' 16 16
  rsv == 0#4 &&
  ( (op == 0x1#4 && Pointer.six.contains p && d == 0#16)
 || (op == 0x2#4 && p == 0x01#8)
 || (op == 0x3#4 && p == 0x00#8 && d == 0#16)
 || (op == 0x4#4 && Pointer.six.contains p && d == 0#16)
 || (op == 0x5#4 && [0x7E#8, 0x7F#8].contains p && d == 0#16)
 || (op == 0x6#4 && p == 0x01#8 && d == 0#16)
 || (op == 0x7#4 && p == 0x01#8)
 || (op == 0x8#4 && [0x00#8, 0x02#8, 0x03#8].contains p && d == 0#16) )

/-- WRCMD by pointer (R84). -/
def wrcmdRow (p : Byte) : Option Instr :=
  match p with
  | 0x00#8 => some .wrcmdResult
  | 0x01#8 => some .wrcmdConfig
  | 0x02#8 => some .wrcmdLowlim
  | 0x03#8 => some .wrcmdHighlim
  | 0x7E#8 => some .wrcmdMfrid
  | 0x7F#8 => some .wrcmdDevid
  | _ => none

/-- REGRD by pointer (R84). -/
def regrdRow (p : Byte) : Option Instr :=
  match p with
  | 0x00#8 => some .regrdResult
  | 0x01#8 => some .regrdConfig
  | 0x02#8 => some .regrdLowlim
  | 0x03#8 => some .regrdHighlim
  | 0x7E#8 => some .regrdMfrid
  | 0x7F#8 => some .regrdDevid
  | _ => none

/-- RDID by pointer (R84). -/
def rdidRow (p : Byte) : Option Instr :=
  match p with
  | 0x7E#8 => some .rdidMfrid
  | 0x7F#8 => some .rdidDevid
  | _ => none

/-- RDMEAS by pointer (R84). -/
def rdmeasRow (p : Byte) : Option Instr :=
  match p with
  | 0x00#8 => some .rdmeasResult
  | 0x02#8 => some .rdmeasLowlim
  | 0x03#8 => some .rdmeasHighlim
  | _ => none

/-- A row whose DATA must be 0 (R84). -/
def withoutData (row : Option Instr) (d : Word16) : Except DecodeError Instr :=
  match row with
  | none => .error .ptrNotAllowed
  | some i => if d = 0#16 then .ok i else .error .dataNonzero

/-- A row whose pointer is fixed and whose DATA is any word (R84). -/
def withData (fixed p : Byte) (i : Instr) : Except DecodeError Instr :=
  if p = fixed then .ok i else .error .ptrNotAllowed

/-- The command of an OP, a PTR and a DATA whose RSV is 0 (R83, R84). -/
def decodeFields (op : Op) (p : Byte) (d : Word16) : Except DecodeError Instr :=
  match op with
  | 0x1#4 => withoutData (wrcmdRow p) d
  | 0x2#4 => withData Pointer.config p (.wrwordConfig d)
  | 0x3#4 => withoutData (if p = 0x00#8 then some .rdword else none) d
  | 0x4#4 => withoutData (regrdRow p) d
  | 0x5#4 => withoutData (rdidRow p) d
  | 0x6#4 => withoutData (if p = Pointer.config then some .rdcfg else none) d
  | 0x7#4 => withData Pointer.config p (.wrcfg d)
  | 0x8#4 => withoutData (rdmeasRow p) d
  | _ => .error .reservedOp

/-- The decoder: the command a 32-bit word stands for, or the ground of R85 on which it is none. The order in which the grounds
are tried decides no behaviour (log 11). -/
def decode (v : Word32) : Except DecodeError Instr :=
  let c := commandOfWord v
  if c.rsv = 0#4 then decodeFields c.op c.ptr c.data else .error .rsvNonzero

/-- The fields of a command (R83, R84, R88). -/
def fieldsOf (i : Instr) : Command :=
  match i with
  | .wrcmdResult => ⟨OpCode.wrcmd, 0#4, Pointer.result, 0#16⟩
  | .wrcmdConfig => ⟨OpCode.wrcmd, 0#4, Pointer.config, 0#16⟩
  | .wrcmdLowlim => ⟨OpCode.wrcmd, 0#4, Pointer.lowlim, 0#16⟩
  | .wrcmdHighlim => ⟨OpCode.wrcmd, 0#4, Pointer.highlim, 0#16⟩
  | .wrcmdMfrid => ⟨OpCode.wrcmd, 0#4, Pointer.mfrid, 0#16⟩
  | .wrcmdDevid => ⟨OpCode.wrcmd, 0#4, Pointer.devid, 0#16⟩
  | .wrwordConfig d => ⟨OpCode.wrword, 0#4, Pointer.config, d⟩
  | .rdword => ⟨OpCode.rdword, 0#4, 0x00#8, 0#16⟩
  | .regrdResult => ⟨OpCode.regrd, 0#4, Pointer.result, 0#16⟩
  | .regrdConfig => ⟨OpCode.regrd, 0#4, Pointer.config, 0#16⟩
  | .regrdLowlim => ⟨OpCode.regrd, 0#4, Pointer.lowlim, 0#16⟩
  | .regrdHighlim => ⟨OpCode.regrd, 0#4, Pointer.highlim, 0#16⟩
  | .regrdMfrid => ⟨OpCode.regrd, 0#4, Pointer.mfrid, 0#16⟩
  | .regrdDevid => ⟨OpCode.regrd, 0#4, Pointer.devid, 0#16⟩
  | .rdidMfrid => ⟨OpCode.rdid, 0#4, Pointer.mfrid, 0#16⟩
  | .rdidDevid => ⟨OpCode.rdid, 0#4, Pointer.devid, 0#16⟩
  | .rdcfg => ⟨OpCode.rdcfg, 0#4, Pointer.config, 0#16⟩
  | .wrcfg d => ⟨OpCode.wrcfg, 0#4, Pointer.config, d⟩
  | .rdmeasResult => ⟨OpCode.rdmeas, 0#4, Pointer.result, 0#16⟩
  | .rdmeasLowlim => ⟨OpCode.rdmeas, 0#4, Pointer.lowlim, 0#16⟩
  | .rdmeasHighlim => ⟨OpCode.rdmeas, 0#4, Pointer.highlim, 0#16⟩

/-- The encoder: the word of a command (R80, R88). -/
def encode (i : Instr) : Word32 := wordOfCommand (fieldsOf i)

/-- The command the decoder reads from a row of spec/opcode_table.json: a command is one 32-bit word (R87), written whole to
CMD, so bit numbers are the table's own. Bits from `nbits` up are 0. -/
def decodeTableWord (nbits w : Nat) : Option Instr :=
  match decode (BitVec.ofNat 32 (w % 2 ^ nbits)) with
  | .ok i => some i
  | .error _ => none

end Sys2Proof
end

