-- ==== Sys2Proof/Config.lean ====
section
/-! DEFINITION. The parameters of 00_scope.md R6 and R7, and the three parameters 92_eei_decisions.md leaves to the platform. -/

namespace Sys2Proof.Config

/-- POLL_INTERVAL_MS (R6). -/
def pollIntervalMs : Nat := 10

/-- POLL_CEILING (R6). -/
def pollCeiling : Nat := 250

/-- READ_COUNT (R6). -/
def readCount : Byte := 2#8

/-- ERR_SCALE (R6). -/
def errScale : Int := -10

/-- TIMEOUT_CODE = -100 (R7, R29), in the 16-bit two's complement of ERR. -/
def timeoutCode : Word16 := BitVec.ofInt 16 (-100)

/-- The stop argument of every `Bus.end` (R40: "The block uses stop = 1 only"). -/
def endStop : Bool := true

/-- The orders in which a host bus may move a register's four bytes. DESIGN CHOICE, safe: 20_memory.md R62 leaves the order to the
platform and lists none, and the model names only these two (log 22). Nothing reads a value of it. -/
inductive ByteLanes
  | littleEndian
  | bigEndian
deriving DecidableEq, Repr, Inhabited

/-- The sources a reset may have (70_reset_and_hazards.md R200). -/
inductive ResetSource
  | powerOn
  | resetInput
  | both
deriving DecidableEq, Repr, Inhabited

/-- HOST_BASE, open (92 D34, 20_memory.md R69). No rule reads it. Log 13. -/
opaque hostBase : Nat

/-- HOST_BUS_ENDIAN, open (92 D35, R62). No rule reads it. Log 13. -/
opaque hostBusEndian : ByteLanes

/-- RESET_SOURCE, open (92 D36, R200). Every source gives the same reset state, so no rule reads it. Log 13. -/
opaque resetSource : ResetSource

end Sys2Proof.Config
end

