-- ==== Sys2Proof/Machine/State.lean ====
section
/-! DEFINITION. The machine's state as plain data (10_state.md), with the agents of 00_scope.md R5 that move it, and the reset
state (R45). -/

namespace Sys2Proof.Machine

/-- The sequencer's control points (R38). -/
inductive Control
  | idle
  | wbegin
  | wbyte
  | wend
  | rreq
  | rpoll
  | rwait
  | rread
deriving DecidableEq, Repr

/-- What the sequencer can ask of the transport port or of the poll timer (00_scope.md R11): the contract's seven primitives
(R40) and the timer's wait. -/
inductive Primitive
  | beginTx (a : DevAddr)
  | write (b : Byte)
  | endTx (stop : Bool)
  | request (a : DevAddr) (n : Byte)
  | available
  | read (n : Byte)
  | init
  | wait (ms : Nat)
deriving DecidableEq, Repr

/-- One event of the trace (R13). -/
inductive BusEvent
  /-- `BEGIN(a)` -/
  | beginTx (a : DevAddr)
  /-- `WRITE(b)` -/
  | write (b : Byte)
  /-- `END(stop)=s` -/
  | endTx (stop : Bool) (s : Byte)
  /-- `REQUEST(a,n)` -/
  | request (a : DevAddr) (n : Byte)
  /-- `AVAIL=c` -/
  | avail (c : Byte)
  /-- `WAIT(ms)` -/
  | wait (ms : Nat)
  /-- `READ(n)={b0,b1}` -/
  | read (n : Byte) (b0 b1 : Byte)
deriving DecidableEq, Repr

/-- An answer given and not yet taken by the sequencer (R41, R66). -/
inductive Answer
  /-- the return of `Bus.begin`, `Bus.write` or `Bus.request`, which gives no value (log 5) -/
  | returned
  /-- the end status that `Bus.end` returns -/
  | status (s : Byte)
  /-- the count that `Bus.available` returns -/
  | count (c : Byte)
  /-- the two bytes that `Bus.read(2)` returns, in arrival order -/
  | bytes (b0 b1 : Byte)
  /-- the end of a `Timer.wait` -/
  | waited
deriving DecidableEq, Repr

/-- What the transport draws when it moves: the value it gives to whichever primitive is outstanding (R41). Only the value that
primitive returns, if any, is looked at. `bytes` may hold any number of bytes, so that a transport that breaks R41 (d) can be written
down. Log 2. -/
structure Draw where
  status : Byte
  count  : Byte
  bytes  : List Byte
deriving DecidableEq, Repr

/-- One turn of one agent (R5, R66), or a reset by the platform (R200). Log 1. -/
inductive Turn
  | host
  | sequencer
  | transport (d : Draw)
  | timer
  | reset
deriving DecidableEq, Repr

/-- The sizes of a host access: 1, 2 or 4 bytes (20_memory.md R63). -/
inductive AccessSize
  | one
  | two
  | four
deriving DecidableEq, Repr

/-- One action of the host agent (00_scope.md R12, 30_encoding.md R88). Log 6. -/
inductive HostAction
  /-- `MemRead(off, size)` -/
  | read (off : Offset) (size : AccessSize)
  /-- `MemWrite(off, size, v)` -/
  | write (off : Offset) (size : AccessSize) (v : Word32)
  /-- `WAITIDLE`: repeat `MemRead(0x04, 4)` until bit 0 is 0 -/
  | waitIdle
deriving DecidableEq, Repr

/-- The register value one host read returned (R13). -/
structure HostRead where
  off   : Offset
  value : Word32
deriving DecidableEq, Repr

/-- Why the machine stops with a fault. All three stop states that no run from `State.reset` reaches: the spec says nothing of
them, and stopping there is safe. Log 9. -/
inductive Fault
  /-- Raised by the sequencer at WBYTE when S.k is not the index of a byte of the write phase. Safe. -/
  | byteIndexOutOfRange
  /-- Raised by the sequencer when the answer it finds is not one its outstanding primitive returns. Safe. -/
  | answerOfAnotherPrimitive
  /-- Raised at a sequencer turn with BUSY = 1 when S.op, S.ptr and S.data are no legal command. Safe. -/
  | noLegalCommandInFlight
deriving DecidableEq, Repr

/-- Why the machine refuses to go on with a run. -/
inductive Refusal
  /-- An instruction whose arm of `exec` has no meaning yet. Safe. -/
  | notModelled (mnemonic : String)
  /-- Raised by a host access of size 1 or 2 or at an offset that is not a multiple of 4: "A model must refuse a run that makes
  one" (20_memory.md R63). Safe. -/
  | undefinedHostAccess
  /-- Raised when the transport answers `Bus.read(2)` with other than two bytes: "A model must refuse such a run" (R41). Safe. -/
  | readNotTwoBytes
deriving DecidableEq, Repr

/-- The machine's state. The first two groups are the block's (R45). The others are the model's: the port's answer, the agents
that are not the block, and what R13 says is observed. -/
structure State where
  /-- LASTCMD, the CMD read-back (R22, R36) -/
  lastCmd   : Word32
  /-- STATUS.BUSY (R24) -/
  busy      : Bool
  /-- STATUS.DONE (R25) -/
  done      : Bool
  /-- STATUS.ILLEGAL (R26) -/
  illegal   : Bool
  /-- STATUS.OVERRUN (R27) -/
  overrun   : Bool
  /-- ERR (R29) -/
  err       : Word16
  /-- WORD (R30) -/
  word      : Word16
  /-- LUX_CENTI bits 26:0 (R32) -/
  luxCenti  : BitVec 27
  /-- LUX_F32 (R33) -/
  luxF32    : Word32
  /-- POLLCNT bits 7:0 (R34) -/
  pollCnt   : Byte
  /-- DEVADDR.ADDR (R35) -/
  devAddr   : DevAddr
  /-- DEVADDR.VALID (R35) -/
  devValid  : Bool
  /-- S.state (R38) -/
  seqState  : Control
  /-- S.op (R36) -/
  seqOp     : Op
  /-- S.ptr (R36) -/
  seqPtr    : Byte
  /-- S.data (R36) -/
  seqData   : Word16
  /-- S.k (R36) -/
  seqK      : BitVec 2
  /-- S.polls (R36) -/
  seqPolls  : Byte
  /-- S.word (R36) -/
  seqWord   : Word16
  /-- the answer given to the outstanding primitive and not yet taken (R40, R66; log 4) -/
  answer    : Option Answer
  /-- the host's remaining actions (R88; log 6) -/
  program   : List HostAction
  /-- the turns still to be taken (R66; log 1) -/
  schedule  : List Turn
  /-- the transport events so far, the oldest first (R13) -/
  trace     : List BusEvent
  /-- the host reads so far, the oldest first (R13) -/
  reads     : List HostRead
deriving DecidableEq, Repr

/-- The machine right after reset: the block at the values of R45, the other agents with nothing to do and nothing observed yet
(log 16). -/
def State.reset : State where
  lastCmd   := 0x00000000#32
  busy      := false
  done      := false
  illegal   := false
  overrun   := false
  err       := 0#16
  word      := 0x0000#16
  luxCenti  := 0#27
  luxF32    := 0x00000000#32
  pollCnt   := 0#8
  devAddr   := 0x00#7
  devValid  := false
  seqState  := .idle
  seqOp     := 0#4
  seqPtr    := 0#8
  seqData   := 0#16
  seqK      := 0#2
  seqPolls  := 0#8
  seqWord   := 0#16
  answer    := none
  program   := []
  schedule  := []
  trace     := []
  reads     := []

/-- What one step answers. -/
abbrev Result := Host.Outcome State Fault Refusal

end Sys2Proof.Machine
end

