-- ==== Sys2Proof/Machine/Flags.lean ====
section
/-! DEFINITION. Error derivation (40_bus_transaction.md R102) and the STATUS flags (10_state.md R23, R28, R44). -/

namespace Sys2Proof.Machine

/-- `errOf(s) = -10 * s`, stored as 16-bit two's complement (R102). -/
def errOf (s : Byte) : Word16 := BitVec.ofInt 16 (Config.errScale * (s.toNat : Int))

/-- STATUS.ERRF, computed from ERR (R28). -/
def errF (s : State) : Bool := s.err != 0#16

/-- STATUS.TMO, computed from ERR (R28). -/
def tmo (s : State) : Bool := s.err == Config.timeoutCode

/-- STATUS as a host read returns it: bit 0 BUSY, 1 DONE, 2 ILLEGAL, 3 OVERRUN, 4 ERRF, 5 TMO, 31:6 zero (R23). -/
def statusWord (s : State) : Word32 :=
  0#26 ++ BitVec.ofBool (tmo s) ++ BitVec.ofBool (errF s) ++ BitVec.ofBool s.overrun ++ BitVec.ofBool s.illegal
    ++ BitVec.ofBool s.done ++ BitVec.ofBool s.busy

end Sys2Proof.Machine
end

