-- ==== Sys2Proof/Machine/Operands.lean ====
section
/-! DEFINITION. What a command sends and receives (40_bus_transaction.md R100, 20_memory.md R60, R61), which phases it has
(10_state.md R38, R39), and what a host access names (R20, 20_memory.md R62 to R64). -/

namespace Sys2Proof.Machine

/-- `bytes(op, ptr, data)`: the bytes of a write phase, most significant byte of the word first (R100, R61). -/
def bytesOf (op : Op) (ptr : Byte) (data : Word16) : List Byte :=
  if op = OpCode.wrword ∨ op = OpCode.wrcfg then [ptr, data.extractLsb' 8 8, data.extractLsb' 0 8] else [ptr]

/-- `hasRead(op)` (R39). -/
def hasRead (op : Op) : Bool :=
  op ∈ [OpCode.rdword, OpCode.regrd, OpCode.rdid, OpCode.rdcfg, OpCode.rdmeas]

/-- The entry state of an OP: WBEGIN, except RDWORD's, which is RREQ (R38). -/
def entryState (op : Op) : Control := if op = OpCode.rdword then .rreq else .wbegin

/-- `word = b0 ++ b1`, the first byte in bits 15:8 (R60, R105). -/
def assembleWord (b0 b1 : Byte) : Word16 := b0 ++ b1

/-- A host access the spec defines: size 4 at a 4-aligned offset (R63). -/
def accessDefined (off : Offset) (size : AccessSize) : Bool :=
  size == .four && off.extractLsb' 0 2 == 0#2

/-- PARAM: POLL_CEILING in bits 31:16, POLL_INTERVAL_MS in bits 15:0 (R31). -/
def paramWord : Word32 := BitVec.ofNat 16 Config.pollCeiling ++ BitVec.ofNat 16 Config.pollIntervalMs

/-- DEVADDR as a host read returns it: VALID in bit 31, ADDR in bits 6:0 (R35). -/
def devAddrWord (s : State) : Word32 := BitVec.ofBool s.devValid ++ 0#24 ++ s.devAddr

/-- The 32-bit value of `MemRead(off, 4)` (R20, R22, R23, R29 to R35). A reserved offset reads 0 (R64). -/
def readReg (off : Offset) (s : State) : Word32 :=
  match off with
  | 0x00#8 => s.lastCmd
  | 0x04#8 => statusWord s
  | 0x08#8 => s.err.signExtend 32
  | 0x0C#8 => s.word.zeroExtend 32
  | 0x10#8 => s.luxCenti.zeroExtend 32
  | 0x14#8 => s.luxF32
  | 0x18#8 => s.pollCnt.zeroExtend 32
  | 0x1C#8 => devAddrWord s
  | 0x20#8 => paramWord
  | _ => 0#32

/-- The four bytes a host bus moves for a register value, in the order of its byte lanes (R62). Nothing reads it: every defined
access is one whole register. Log 13, log 22. -/
def toLanes (e : Config.ByteLanes) (v : Word32) : List Byte :=
  match e with
  | .littleEndian => [v.extractLsb' 0 8, v.extractLsb' 8 8, v.extractLsb' 16 8, v.extractLsb' 24 8]
  | .bigEndian => [v.extractLsb' 24 8, v.extractLsb' 16 8, v.extractLsb' 8 8, v.extractLsb' 0 8]

/-- The register value four bytes on the host bus's lanes stand for: bit `i` to bit `i` (R62). -/
def ofLanes (e : Config.ByteLanes) (a b c d : Byte) : Word32 :=
  match e with
  | .littleEndian => d ++ c ++ b ++ a
  | .bigEndian => a ++ b ++ c ++ d

end Sys2Proof.Machine
end

