-- ==== Sys2Proof/Machine/Ops.lean ====
section
/-! DEFINITION. The shared operations on the state: the block's register writes, the host-interface refusals (60_exceptions.md
R183, R184; the block has no exception, R180), and one step of a command (10_state.md R39). -/

namespace Sys2Proof.Machine

/-- A transport event joins the trace (R13). -/
def emit (e : BusEvent) (s : State) : State := { s with trace := s.trace ++ [e] }

/-- The sequencer takes the answer it was given. -/
def takeAnswer (s : State) : State := { s with answer := none }

/-- An agent answers the outstanding primitive (R66). -/
def giveAnswer (a : Answer) (s : State) : State := { s with answer := some a }

/-- The sequencer moves to a control point. -/
def goTo (c : Control) (s : State) : State := { s with seqState := c }

/-- S.k is written. -/
def setK (k : BitVec 2) (s : State) : State := { s with seqK := k }

/-- S.polls is written. -/
def setPolls (n : Byte) (s : State) : State := { s with seqPolls := n }

/-- S.word is written. -/
def setSeqWord (w : Word16) (s : State) : State := { s with seqWord := w }

/-- `complete(word, err, centi, f32, polls)` (R37). -/
def complete (word err : Word16) (centi : BitVec 27) (f32 : Word32) (polls : Byte) (s : State) : State :=
  { s with
    word := word, err := err, luxCenti := centi, luxF32 := f32, pollCnt := polls,
    busy := false, done := true, seqState := .idle }

/-- `raise ILLEGAL` (R183). -/
def raiseIllegal (s : State) : State := { s with illegal := true }

/-- `raise OVERRUN` (R184). -/
def raiseOverrun (s : State) : State := { s with overrun := true }

/-- The accepted branch of a command issue (R22). -/
def accept (v : Word32) (s : State) : State :=
  { s with
    lastCmd := v, seqOp := v.extractLsb' 0 4, seqPtr := v.extractLsb' 8 8, seqData := v.extractLsb' 16 16,
    done := false, busy := true, seqState := entryState (v.extractLsb' 0 4) }

/-- A STATUS write: write 1 to clear on bits 1 to 3 (R23). -/
def writeStatus (v : Word32) (s : State) : State :=
  { s with
    done := if v.getLsbD 1 then false else s.done,
    illegal := if v.getLsbD 2 then false else s.illegal,
    overrun := if v.getLsbD 3 then false else s.overrun }

/-- The accepted branch of a DEVADDR write (R35). -/
def setDevAddr (v : Word32) (s : State) : State :=
  { s with devAddr := v.extractLsb' 0 7, devValid := true }

/-- Reset of the block: every piece of block state at the value of R45, the outstanding primitive abandoned (R200, R202). The
other agents and what has been observed stay (log 10). -/
def resetBlock (s : State) : State :=
  { State.reset with program := s.program, schedule := s.schedule, trace := s.trace, reads := s.reads }

/-- The primitive the sequencer has outstanding at its control point (R38). At WBYTE there is none if S.k is out of range. -/
def outstanding (s : State) : Option Primitive :=
  match s.seqState with
  | .idle => none
  | .wbegin => some (.beginTx s.devAddr)
  | .wbyte => ((bytesOf s.seqOp s.seqPtr s.seqData)[s.seqK.toNat]?).map .write
  | .wend => some (.endTx Config.endStop)
  | .rreq => some (.request s.devAddr Config.readCount)
  | .rpoll => some .available
  | .rwait => some (.wait Config.pollIntervalMs)
  | .rread => some (.read Config.readCount)

/-! One step of the sequencer at each control point (R39). `finish` is the per-command completion. A step waits
until the primitive's answer is there (R40: "The block issues the next only when the last has returned"), so that a primitive that
never returns leaves the command where it is (R41 (a), 60_exceptions.md R196). -/

/-- WBEGIN (R39, R101). -/
def stepWBegin (s : State) : Result :=
  match s.answer with
  | none => .next s
  | some .returned => .next (goTo .wbyte (setK 0#2 (emit (.beginTx s.devAddr) (takeAnswer s))))
  | some _ => .fault .answerOfAnotherPrimitive

/-- What follows a `WRITE` (R39): the end after the last of `len` bytes, else the next byte. -/
def afterWrite (len : Nat) (s : State) : State := if s.seqK.toNat = len then goTo .wend s else s

/-- WBYTE (R39, R101). -/
def stepWByte (s : State) : Result :=
  let bs := bytesOf s.seqOp s.seqPtr s.seqData
  match bs[s.seqK.toNat]? with
  | none => .fault .byteIndexOutOfRange
  | some b =>
    match s.answer with
    | none => .next s
    | some .returned =>
      .next (afterWrite bs.length (setK (s.seqK + 1#2) (emit (.write b) (takeAnswer s))))
    | some _ => .fault .answerOfAnotherPrimitive

/-- What follows `END(1)=st` (R39): a bus fault or a command with no read phase completes, another goes on to its read phase. -/
def afterEnd (st : Byte) (s : State) : State :=
  if errOf st ≠ 0#16 then complete 0x0000#16 (errOf st) 0#27 0x00000000#32 0#8 s
  else if hasRead s.seqOp then goTo .rreq s
  else complete 0x0000#16 0#16 0#27 0x00000000#32 0#8 s

/-- WEND (R39, R101, R102). -/
def stepWEnd (s : State) : Result :=
  match s.answer with
  | none => .next s
  | some (.status st) => .next (afterEnd st (emit (.endTx Config.endStop st) (takeAnswer s)))
  | some _ => .fault .answerOfAnotherPrimitive

/-- RREQ (R39, R103). -/
def stepRReq (s : State) : Result :=
  match s.answer with
  | none => .next s
  | some .returned => .next (goTo .rpoll (setPolls 0#8 (emit (.request s.devAddr Config.readCount) (takeAnswer s))))
  | some _ => .fault .answerOfAnotherPrimitive

/-- RPOLL (R39, R104). -/
def stepRPoll (s : State) : Result :=
  match s.answer with
  | none => .next s
  | some (.count c) =>
    .next (goTo (if 2 ≤ c.toNat then .rread else .rwait) (emit (.avail c) (takeAnswer s)))
  | some _ => .fault .answerOfAnotherPrimitive

/-- The poll count after a wait (R39, R104): the ceiling ends the command with a timeout, else the block polls again. -/
def afterWait (finish : Word16 → Word16 → Byte → State → State) (s : State) : State :=
  if s.seqPolls.toNat = Config.pollCeiling then finish 0x0000#16 Config.timeoutCode s.seqPolls s else goTo .rpoll s

/-- RWAIT (R39, R104). -/
def stepRWait (finish : Word16 → Word16 → Byte → State → State) (s : State) : Result :=
  match s.answer with
  | none => .next s
  | some .waited =>
    .next (afterWait finish (setPolls (s.seqPolls + 1#8) (emit (.wait Config.pollIntervalMs) (takeAnswer s))))
  | some _ => .fault .answerOfAnotherPrimitive

/-- RREAD (R39, R105). -/
def stepRRead (finish : Word16 → Word16 → Byte → State → State) (s : State) : Result :=
  match s.answer with
  | none => .next s
  | some (.bytes b0 b1) =>
    .next (finish (assembleWord b0 b1) 0#16 s.seqPolls
      (setSeqWord (assembleWord b0 b1) (emit (.read Config.readCount b0 b1) (takeAnswer s))))
  | some _ => .fault .answerOfAnotherPrimitive

/-- One step of the sequencer (R38, R39). At IDLE it waits. -/
def sequencerStep (finish : Word16 → Word16 → Byte → State → State) (s : State) : Result :=
  match s.seqState with
  | .idle => .next s
  | .wbegin => stepWBegin s
  | .wbyte => stepWByte s
  | .wend => stepWEnd s
  | .rreq => stepRReq s
  | .rpoll => stepRPoll s
  | .rwait => stepRWait finish s
  | .rread => stepRRead finish s

/-- The issue of a legal command word while BUSY = 0: accepted if an address was set, else refused (R22). -/
def issue (v : Word32) (s : State) : State :=
  if s.devValid then accept v s else raiseIllegal s

/-- One step of the command whose word is `v` (log 8): its issue while BUSY = 0 (R22), its next transport event while BUSY = 1
(R39). -/
def commandStep (v : Word32) (finish : Word16 → Word16 → Byte → State → State) (s : State) : Result :=
  if s.busy then sequencerStep finish s else .next (issue v s)

end Sys2Proof.Machine
end

