-- ==== Sys2Proof/Machine/BusTransaction.lean ====
section
/-! DEFINITION. The commands of the Bus Transaction Layer (40_bus_transaction.md R106 to R109): WRCMD, WRWORD, RDWORD, REGRD. -/

namespace Sys2Proof.Machine

/-- The completion of a command that has no read phase: it reports the write phase's error and nothing else (R106, R107). -/
def finishWrite (_w err : Word16) (_n : Byte) (s : State) : State :=
  complete 0x0000#16 err 0#27 0x00000000#32 0#8 s

/-- The completion of RDWORD and of REGRD's read phase: the word, the error and the poll count as the read phase gives them
(R108, R109). -/
def finishWord (w err : Word16) (n : Byte) (s : State) : State := complete w err 0#27 0x00000000#32 n s

/-- WRCMD RESULT (R106). -/
def execWrcmdResult (s : State) : Result :=
  commandStep (encode .wrcmdResult) finishWrite s

/-- WRCMD CONFIG (R106). -/
def execWrcmdConfig (s : State) : Result :=
  commandStep (encode .wrcmdConfig) finishWrite s

/-- WRCMD LOWLIM (R106). -/
def execWrcmdLowlim (s : State) : Result :=
  commandStep (encode .wrcmdLowlim) finishWrite s

/-- WRCMD HIGHLIM (R106). -/
def execWrcmdHighlim (s : State) : Result :=
  commandStep (encode .wrcmdHighlim) finishWrite s

/-- WRCMD MFRID (R106). -/
def execWrcmdMfrid (s : State) : Result :=
  commandStep (encode .wrcmdMfrid) finishWrite s

/-- WRCMD DEVID (R106). -/
def execWrcmdDevid (s : State) : Result :=
  commandStep (encode .wrcmdDevid) finishWrite s

/-- WRWORD CONFIG (R107). -/
def execWrwordConfig (data : Word16) (s : State) : Result :=
  commandStep (encode (.wrwordConfig data)) finishWrite s

/-- RDWORD (R108). -/
def execRdword (s : State) : Result :=
  commandStep (encode .rdword) finishWord s

/-- REGRD RESULT (R109). -/
def execRegrdResult (s : State) : Result :=
  commandStep (encode .regrdResult) finishWord s

/-- REGRD CONFIG (R109). -/
def execRegrdConfig (s : State) : Result :=
  commandStep (encode .regrdConfig) finishWord s

/-- REGRD LOWLIM (R109). -/
def execRegrdLowlim (s : State) : Result :=
  commandStep (encode .regrdLowlim) finishWord s

/-- REGRD HIGHLIM (R109). -/
def execRegrdHighlim (s : State) : Result :=
  commandStep (encode .regrdHighlim) finishWord s

/-- REGRD MFRID (R109). -/
def execRegrdMfrid (s : State) : Result :=
  commandStep (encode .regrdMfrid) finishWord s

/-- REGRD DEVID (R109). -/
def execRegrdDevid (s : State) : Result :=
  commandStep (encode .regrdDevid) finishWord s

end Sys2Proof.Machine
end

