-- ==== Sys2Proof/Machine/Decoder.lean ====
section
/-! DEFINITION. The lux decoder (41_register_value.md R144 to R150). -/

namespace Sys2Proof.Machine

/-- `EXP(w) = w[15:12]` (R144). -/
def expOf (w : Word16) : BitVec 4 := w.extractLsb' 12 4

/-- `MANT(w) = w[11:0]` (R144). -/
def mantOf (w : Word16) : BitVec 12 := w.extractLsb' 0 12

/-- The lux value as an exact rational (R145). -/
def luxOf (w : Word16) : ℚ := (mantOf w).toNat * 2 ^ (expOf w).toNat / 100

/-- `MANT << EXP` as an integer (R146). -/
def centiNat (w : Word16) : Nat := (mantOf w).toNat <<< (expOf w).toNat

/-- `centi(w)`, in the 27 bits of LUX_CENTI (R32, R146). -/
def centiOf (w : Word16) : BitVec 27 := BitVec.ofNat 27 (centiNat w)

/-- `n / d` to the nearest integer, a tie to the even one. -/
def roundDivEven (n d : Nat) : Nat :=
  let q := n / d
  let r := n % d
  if 2 * r > d ∨ (2 * r = d ∧ q % 2 = 1) then q + 1 else q

/-- The binary32 nearest `n / 100`, ties to even (R147), for `n` from 0 to 2^27 - 1.

With `j` the integer part of log2 of `128 n / 100`, the value lies in `[2^(j-7), 2^(j-6))`, so its 24-bit significand is
`n / 100` scaled by `2^(30-j)` and rounded, and its biased exponent is `j - 7 + 127`. The significand's top bit is added to
`j + 119` in the exponent field, so a significand that rounds up to 2^24 carries into the exponent by itself. Log 12. -/
def f32OfCenti (n : Nat) : Word32 :=
  if n = 0 then 0x00000000#32
  else
    let j := (n * 128 / 100).log2
    BitVec.ofNat 32 ((j + 119) * 2 ^ 23 + roundDivEven (n * 2 ^ (30 - j)) 100)

/-- `f32(w)` (R147). -/
def f32Of (w : Word16) : Word32 := f32OfCenti (centiNat w)

/-- Whether a binary32 is finite: its exponent field is not all ones (R7: IEEE 754 binary32). -/
def binary32Finite (x : Word32) : Bool := x.extractLsb' 23 8 != 0xFF#8

/-- The rational value of a finite binary32 (R7). Only statements use it, to say what nearest means (R147). -/
def binary32Value (x : Word32) : ℚ :=
  let e := (x.extractLsb' 23 8).toNat
  let f := (x.extractLsb' 0 23).toNat
  let magnitude : ℚ := if e = 0 then (f : ℚ) / 2 ^ 149 else ((2 ^ 23 + f : ℕ) : ℚ) * 2 ^ e / 2 ^ 150
  if x.getLsbD 31 then -magnitude else magnitude

end Sys2Proof.Machine
end

