-- ==== Sys2Proof/Machine/RegisterValue.lean ====
section
/-! DEFINITION. The commands of the Register/Value Model (41_register_value.md R140 to R143): RDID, RDCFG, WRCFG, RDMEAS. -/

namespace Sys2Proof.Machine

/-- The completion of RDID's and RDCFG's read phase: on an error the value is 0 and ERR keeps the error (R140, R141). -/
def finishIdentifier (w err : Word16) (n : Byte) (s : State) : State :=
  if err ≠ 0#16 then complete 0x0000#16 err 0#27 0x00000000#32 n s else complete w 0#16 0#27 0x00000000#32 n s

/-- The completion of RDMEAS's read phase: on success the word is decoded into lux (R143). -/
def finishMeasurement (w err : Word16) (n : Byte) (s : State) : State :=
  if err ≠ 0#16 then complete 0x0000#16 err 0#27 0x00000000#32 n s else complete w 0#16 (centiOf w) (f32Of w) n s

/-- RDID MFRID (R140). -/
def execRdidMfrid (s : State) : Result :=
  commandStep (encode .rdidMfrid) finishIdentifier s

/-- RDID DEVID (R140). -/
def execRdidDevid (s : State) : Result :=
  commandStep (encode .rdidDevid) finishIdentifier s

/-- RDCFG (R141). -/
def execRdcfg (s : State) : Result :=
  commandStep (encode .rdcfg) finishIdentifier s

/-- WRCFG (R142). -/
def execWrcfg (data : Word16) (s : State) : Result :=
  commandStep (encode (.wrcfg data)) finishWrite s

/-- RDMEAS RESULT (R143). -/
def execRdmeasResult (s : State) : Result :=
  commandStep (encode .rdmeasResult) finishMeasurement s

/-- RDMEAS LOWLIM (R143). -/
def execRdmeasLowlim (s : State) : Result :=
  commandStep (encode .rdmeasLowlim) finishMeasurement s

/-- RDMEAS HIGHLIM (R143). -/
def execRdmeasHighlim (s : State) : Result :=
  commandStep (encode .rdmeasHighlim) finishMeasurement s

end Sys2Proof.Machine
end

