-- ==== Sys2Proof/Machine/Dispatch.lean ====
section
/-! DEFINITION. One step of each command, one arm for each constructor of Instr (log 8). -/

namespace Sys2Proof.Machine

def exec (i : Instr) (s : State) : Host.Outcome State Fault Refusal :=
  match i with
  | .wrcmdResult => Sys2Proof.Machine.execWrcmdResult s
  | .wrcmdConfig => Sys2Proof.Machine.execWrcmdConfig s
  | .wrcmdLowlim => Sys2Proof.Machine.execWrcmdLowlim s
  | .wrcmdHighlim => Sys2Proof.Machine.execWrcmdHighlim s
  | .wrcmdMfrid => Sys2Proof.Machine.execWrcmdMfrid s
  | .wrcmdDevid => Sys2Proof.Machine.execWrcmdDevid s
  | .wrwordConfig data => Sys2Proof.Machine.execWrwordConfig data s
  | .rdword => Sys2Proof.Machine.execRdword s
  | .regrdResult => Sys2Proof.Machine.execRegrdResult s
  | .regrdConfig => Sys2Proof.Machine.execRegrdConfig s
  | .regrdLowlim => Sys2Proof.Machine.execRegrdLowlim s
  | .regrdHighlim => Sys2Proof.Machine.execRegrdHighlim s
  | .regrdMfrid => Sys2Proof.Machine.execRegrdMfrid s
  | .regrdDevid => Sys2Proof.Machine.execRegrdDevid s
  | .rdidMfrid => Sys2Proof.Machine.execRdidMfrid s
  | .rdidDevid => Sys2Proof.Machine.execRdidDevid s
  | .rdcfg => Sys2Proof.Machine.execRdcfg s
  | .wrcfg data => Sys2Proof.Machine.execWrcfg data s
  | .rdmeasResult => Sys2Proof.Machine.execRdmeasResult s
  | .rdmeasLowlim => Sys2Proof.Machine.execRdmeasLowlim s
  | .rdmeasHighlim => Sys2Proof.Machine.execRdmeasHighlim s

end Sys2Proof.Machine
end

