-- ==== Sys2Proof/Machine/Agents.lean ====
section
/-! DEFINITION. What each agent does when it moves (00_scope.md R5, 20_memory.md R66): the host's accesses (10_state.md R20 to R35,
20_memory.md R63, R64, R67), the sequencer, the transport (R41) and the poll timer (60_exceptions.md R191). -/

namespace Sys2Proof.Machine

/-- `MemWrite(0x00, 4, v)`, the checks in the order of R185: BUSY (the word is not decoded), VALID, legality, else the decoded
command is issued (R22). -/
def writeCmd (v : Word32) (s : State) : Result :=
  if s.busy then .next (raiseOverrun s)
  else if s.devValid = false then .next (raiseIllegal s)
  else
    match decode v with
    | .error _ => .next (raiseIllegal s)
    | .ok i => exec i s

/-- `MemWrite(0x1C, 4, v)` (R35). -/
def writeDevAddr (v : Word32) (s : State) : State :=
  if s.busy then raiseOverrun s else setDevAddr v s

/-- A host write of a whole register. Only CMD, STATUS and DEVADDR writes do anything (R67); a reserved offset ignores them
(R64). -/
def writeReg (off : Offset) (v : Word32) (s : State) : Result :=
  match off with
  | 0x00#8 => writeCmd v s
  | 0x04#8 => .next (writeStatus v s)
  | 0x1C#8 => .next (writeDevAddr v s)
  | _ => .next s

/-- `MemWrite(off, size, v)` (R12, R63). -/
def memWrite (off : Offset) (size : AccessSize) (v : Word32) (s : State) : Result :=
  if accessDefined off size then writeReg off v s else .refused .undefinedHostAccess

/-- The host has read a register: the value joins what is observed (R13). Reading has no other effect (R67). -/
def logRead (off : Offset) (s : State) : State :=
  { s with reads := s.reads ++ [⟨off, readReg off s⟩] }

/-- `MemRead(off, size)` (R12, R63). -/
def memRead (off : Offset) (size : AccessSize) (s : State) : Result :=
  if accessDefined off size then .next (logRead off s) else .refused .undefinedHostAccess

/-- The host's remaining actions are written. -/
def setProgram (p : List HostAction) (s : State) : State := { s with program := p }

/-- The host's turn: its next action, one access of R66. WAITIDLE reads STATUS and stays while bit 0 is 1 (R88). A host with no
action left has no step. -/
def hostTurn (s : State) : Result :=
  match s.program with
  | [] => .next s
  | .read off size :: p => memRead off size (setProgram p s)
  | .write off size v :: p => memWrite off size v (setProgram p s)
  | .waitIdle :: p =>
    memRead 0x04#8 .four (if (statusWord s).getLsbD 0 then s else setProgram p s)

/-- The command in flight: what S.op, S.ptr and S.data stand for (R36). -/
def inFlight (s : State) : Option Instr :=
  match decodeFields s.seqOp s.seqPtr s.seqData with
  | .ok i => some i
  | .error _ => none

/-- The sequencer's turn: one step of the command in flight. While BUSY = 0 it waits at IDLE (R38). -/
def sequencerTurn (s : State) : Result :=
  if s.busy then
    match inFlight s with
    | some i => exec i s
    | none => .fault .noLegalCommandInFlight
  else .next s

/-- The transport answers a primitive: with the value it draws, whatever that is, where the primitive returns one (R41), and by
returning where it returns none (log 5). The block never calls `initialize()` (R205), and a wait is the poll timer's. -/
def answerPrimitive (d : Draw) (p : Primitive) (s : State) : Result :=
  match p with
  | .beginTx _ => .next (giveAnswer .returned s)
  | .write _ => .next (giveAnswer .returned s)
  | .endTx _ => .next (giveAnswer (.status d.status) s)
  | .request _ _ => .next (giveAnswer .returned s)
  | .available => .next (giveAnswer (.count d.count) s)
  | .read _ =>
    match d.bytes with
    | [b0, b1] => .next (giveAnswer (.bytes b0 b1) s)
    | _ => .refused .readNotTwoBytes
  | .init => .next s
  | .wait _ => .next s

/-- The transport's turn: it answers the outstanding primitive. It has no step when none is outstanding or when it has answered
already (log 17). -/
def transportTurn (d : Draw) (s : State) : Result :=
  match s.answer with
  | some _ => .next s
  | none =>
    match outstanding s with
    | none => .next s
    | some p => answerPrimitive d p s

/-- The poll timer's turn: its only step ends the current wait (R191). -/
def timerTurn (s : State) : Result :=
  match s.answer, outstanding s with
  | none, some (.wait _) => .next (giveAnswer .waited s)
  | _, _ => .next s

/-- One turn of one agent, or a reset (R66, R200). -/
def takeTurn (t : Turn) (s : State) : Result :=
  match t with
  | .host => hostTurn s
  | .sequencer => sequencerTurn s
  | .transport d => transportTurn d s
  | .timer => timerTurn s
  | .reset => .next (resetBlock s)

/-- The turns still to be taken are written. -/
def setSchedule (ts : List Turn) (s : State) : State := { s with schedule := ts }

/-- The next step: the first turn of the schedule. With no turn left the other agents have stopped, and the sequencer alone goes
on (log 3). -/
def stepTurn (s : State) : Result :=
  match s.schedule with
  | [] => sequencerTurn s
  | t :: ts => takeTurn t (setSchedule ts s)

/-- The state in which the next step is the host's issue of the command word `v` to a block that is idle and addressed, as the
boot order of R203 leaves it (log 7). -/
def readyToIssue (v : Word32) (s : State) : State :=
  { s with
    busy := false, devValid := true, seqState := .idle, answer := none,
    program := .write 0x00#8 .four v :: s.program, schedule := .host :: s.schedule }

end Sys2Proof.Machine
end

