-- ==== Sys2Proof/Machine/Step.lean ====
section
/-! DEFINITION. The step of the machine: one atomic step of one agent (20_memory.md R66). -/

namespace Sys2Proof.Machine

/-- One step (R66). -/
def step (s : State) : Host.Outcome State Fault Refusal := stepTurn s

/-- `s` with the command word `w` placed so that the very next step is the host's issue of it (log 7). -/
def State.withFetchWord (s : State) (nbits w : Nat) : State :=
  readyToIssue (BitVec.ofNat 32 (w % 2 ^ nbits)) s

end Sys2Proof.Machine
end

