-- ==== Sys2Proof/Machine/ConfigView.lean ====
section
/-! DEFINITION. The field view of a configuration word and the accessors of named fields (41_register_value.md R153, R154). No
command reads a field of it. -/

namespace Sys2Proof.Machine

/-- A named field of a 16-bit word at bits hi..lo (R154). -/
structure WordField where
  hi : Nat
  lo : Nat
deriving DecidableEq, Repr

/-- `M = ((1 << (hi-lo+1)) - 1) << lo` (R154). -/
def fieldMask (f : WordField) : Word16 := ((1#16 <<< (f.hi - f.lo + 1)) - 1#16) <<< f.lo

/-- `get(w) = w[hi:lo]` (R154). -/
def getField (f : WordField) (w : Word16) : Word16 := (w.extractLsb' f.lo (f.hi - f.lo + 1)).zeroExtend 16

/-- `set(w, x) = (w & ~M) | ((x << lo) & M)` (R154). -/
def setField (f : WordField) (w x : Word16) : Word16 := (w &&& ~~~fieldMask f) ||| ((x <<< f.lo) &&& fieldMask f)

/-! The published layout, from general knowledge (R153, log 14): names for a reader, read by no rule. -/

namespace ConfigField

def rangeNumber : WordField := ⟨15, 12⟩
def convertionTime : WordField := ⟨11, 11⟩
def modeOfConversionOperation : WordField := ⟨10, 9⟩
def overflowFlag : WordField := ⟨8, 8⟩
def conversionReady : WordField := ⟨7, 7⟩
def flagHigh : WordField := ⟨6, 6⟩
def flagLow : WordField := ⟨5, 5⟩
def latch : WordField := ⟨4, 4⟩
def polarity : WordField := ⟨3, 3⟩
def maskExponent : WordField := ⟨2, 2⟩
def faultCount : WordField := ⟨1, 0⟩

/-- All fields of the view, from bit 15 down. -/
def all : List WordField :=
  [rangeNumber, convertionTime, modeOfConversionOperation, overflowFlag, conversionReady, flagHigh, flagLow, latch, polarity,
    maskExponent, faultCount]

end ConfigField

/-! The fields of a result word (R144, R154). -/

namespace ResultField

def exponent : WordField := ⟨15, 12⟩
def mantissa : WordField := ⟨11, 0⟩

end ResultField

end Sys2Proof.Machine
end

