-- ==== Sys2Proof/Machine/HostProgram.lean ====
section
/-! DEFINITION. The assembler's commands, the pseudo-commands and the host actions by name (30_encoding.md R88, R89). -/

namespace Sys2Proof.Machine

/-- A command as the assembler writes it: `MNEMONIC [PTRNAME] [, DATA]` (R88). A pointer may be any hex byte, so not every one
encodes a legal word. -/
inductive AsmCommand
  | wrcmd (p : Byte)
  | wrword (d : Word16)
  | rdword
  | regrd (p : Byte)
  | rdid (p : Byte)
  | rdcfg
  | wrcfg (d : Word16)
  | rdmeas (p : Byte)
deriving DecidableEq, Repr

/-- The encodings of R88, row by row. -/
def asmWord (c : AsmCommand) : Word32 :=
  match c with
  | .wrcmd p => (p.zeroExtend 32 <<< 8) ||| 0x01#32
  | .wrword d => (d.zeroExtend 32 <<< 16) ||| 0x0102#32
  | .rdword => 0x00000003#32
  | .regrd p => (p.zeroExtend 32 <<< 8) ||| 0x04#32
  | .rdid p => (p.zeroExtend 32 <<< 8) ||| 0x05#32
  | .rdcfg => 0x00000106#32
  | .wrcfg d => (d.zeroExtend 32 <<< 16) ||| 0x0107#32
  | .rdmeas p => (p.zeroExtend 32 <<< 8) ||| 0x08#32

/-! The pseudo-commands (R89). -/

def readLux : AsmCommand := .rdmeas Pointer.result
def readLow : AsmCommand := .rdmeas Pointer.lowlim
def readHigh : AsmCommand := .rdmeas Pointer.highlim
def readMfr : AsmCommand := .rdid Pointer.mfrid
def readDev : AsmCommand := .rdid Pointer.devid
def point (p : Byte) : AsmCommand := .wrcmd p

/-! The host actions (R88). WAITIDLE is `HostAction.waitIdle`. -/

/-- `ISSUE <command>`: `MemWrite(0x00, 4, encoding)`. -/
def hostIssue (v : Word32) : HostAction := .write 0x00#8 .four v

/-- `SETADDR a`: `MemWrite(0x1C, 4, a)`. -/
def hostSetAddr (a : DevAddr) : HostAction := .write 0x1C#8 .four (a.zeroExtend 32)

/-- `CLEAR m`: `MemWrite(0x04, 4, m)`. -/
def hostClear (m : Word32) : HostAction := .write 0x04#8 .four m

/-- `READ <reg>`: `MemRead(offset of reg, 4)`. -/
def hostRead (off : Offset) : HostAction := .read off .four

/-- `RUN c`: `ISSUE c` and then `WAITIDLE` (R89). -/
def hostRun (c : AsmCommand) : List HostAction := [hostIssue (asmWord c), .waitIdle]

end Sys2Proof.Machine
end

