-- ==== Sys2Proof/Machine/Procedure.lean ====
section
/-! DEFINITION. The commands as whole procedures, the second form the spec gives them: "The pseudocode of rules R100 to R109 of
this file is the same behaviour, written as one procedure per command" (40_bus_transaction.md), and 41_register_value.md R140 to
R143. A procedure takes the transport's answers and gives the command's trace and its results. The step of the machine does not
use them; a statement says that the sequencer does what they say (log 21). -/

namespace Sys2Proof.Machine

/-- The transport's answers during one command: the end status, the available counts in order, and the two bytes. -/
structure Answers where
  status : Byte
  counts : List Byte
  b0     : Byte
  b1     : Byte
deriving DecidableEq, Repr

/-- The five result registers (R21, R37). -/
structure ResultRegs where
  word     : Word16
  err      : Word16
  luxCenti : BitVec 27
  luxF32   : Word32
  pollCnt  : Byte
deriving DecidableEq, Repr

/-- A command's trace and results. -/
structure Run where
  events  : List BusEvent
  results : ResultRegs
deriving DecidableEq, Repr

/-- The trace of the write phase (R101). Its error is `errOf st`. -/
def writePhase (a : DevAddr) (bs : List Byte) (st : Byte) : List BusEvent :=
  .beginTx a :: bs.map .write ++ [.endTx Config.endStop st]

/-- How the bounded poll ends: with at least 2 bytes available, or at the ceiling, after so many poll iterations (R104). -/
inductive PollEnd
  | ready (polls : Nat)
  | timeout (polls : Nat)
deriving DecidableEq, Repr

/-- The bounded poll (R104) with `left` iterations to the ceiling and `polls` done. None if the counts run out: the transport
never returns from `Bus.available`. -/
def pollLoop (left polls : Nat) (counts : List Byte) : Option (List BusEvent × PollEnd) :=
  match left, counts with
  | 0, _ => some ([], .timeout polls)
  | _ + 1, [] => none
  | left + 1, c :: cs =>
    if 2 ≤ c.toNat then some ([.avail c], .ready polls)
    else (pollLoop left (polls + 1) cs).map fun r => (.avail c :: .wait Config.pollIntervalMs :: r.1, r.2)

/-- What the read phase gives: its trace and `(word, err, polls)` (R105). -/
structure ReadRun where
  events : List BusEvent
  word   : Word16
  err    : Word16
  polls  : Byte
deriving DecidableEq, Repr

/-- `readPhase() = R103; R104; R105`. -/
def readPhase (a : DevAddr) (ans : Answers) : Option ReadRun :=
  match pollLoop Config.pollCeiling 0 ans.counts with
  | none => none
  | some (es, .ready n) =>
    some ⟨.request a Config.readCount :: es ++ [.read Config.readCount ans.b0 ans.b1],
      assembleWord ans.b0 ans.b1, 0#16, BitVec.ofNat 8 n⟩
  | some (es, .timeout n) =>
    some ⟨.request a Config.readCount :: es, 0x0000#16, Config.timeoutCode, BitVec.ofNat 8 n⟩

/-- `complete(0x0000, err, 0, 0x00000000, n)` as results. -/
def noValue (err : Word16) (n : Byte) : ResultRegs := ⟨0x0000#16, err, 0#27, 0x00000000#32, n⟩

/-- A command with no read phase: its trace and its error (R106, R107). -/
def writeOnly (a : DevAddr) (bs : List Byte) (ans : Answers) : Option Run :=
  some ⟨writePhase a bs ans.status, noValue (errOf ans.status) 0#8⟩

/-- A command with a write phase of one byte and, if that succeeds, a read phase whose outcome `value` turns into results (R109):
"short-circuit: no REQUEST". -/
def writeThenRead (a : DevAddr) (ptr : Byte) (ans : Answers) (value : ReadRun → ResultRegs) : Option Run :=
  if errOf ans.status ≠ 0#16 then some ⟨writePhase a [ptr] ans.status, noValue (errOf ans.status) 0#8⟩
  else (readPhase a ans).map fun r => ⟨writePhase a [ptr] ans.status ++ r.events, value r⟩

/-- WRCMD (R106). -/
def procWrcmd (a : DevAddr) (ptr : Byte) (ans : Answers) : Option Run := writeOnly a [ptr] ans

/-- WRWORD (R107). -/
def procWrword (a : DevAddr) (data : Word16) (ans : Answers) : Option Run :=
  writeOnly a [0x01#8, data.extractLsb' 8 8, data.extractLsb' 0 8] ans

/-- RDWORD (R108). -/
def procRdword (a : DevAddr) (ans : Answers) : Option Run :=
  (readPhase a ans).map fun r => ⟨r.events, ⟨r.word, r.err, 0#27, 0x00000000#32, r.polls⟩⟩

/-- REGRD (R109). -/
def procRegrd (a : DevAddr) (ptr : Byte) (ans : Answers) : Option Run :=
  writeThenRead a ptr ans fun r => ⟨r.word, r.err, 0#27, 0x00000000#32, r.polls⟩

/-- RDID (R140). -/
def procRdid (a : DevAddr) (ptr : Byte) (ans : Answers) : Option Run :=
  writeThenRead a ptr ans fun r =>
    if r.err ≠ 0#16 then noValue r.err r.polls else ⟨r.word, 0#16, 0#27, 0x00000000#32, r.polls⟩

/-- RDCFG (R141): "as RDID (rule R140), with `S.ptr = 0x01`". -/
def procRdcfg (a : DevAddr) (ans : Answers) : Option Run := procRdid a 0x01#8 ans

/-- WRCFG (R142): "identical to WRWORD". -/
def procWrcfg (a : DevAddr) (data : Word16) (ans : Answers) : Option Run := procWrword a data ans

/-- RDMEAS (R143). -/
def procRdmeas (a : DevAddr) (ptr : Byte) (ans : Answers) : Option Run :=
  writeThenRead a ptr ans fun r =>
    if r.err ≠ 0#16 then noValue r.err r.polls else ⟨r.word, 0#16, centiOf r.word, f32Of r.word, r.polls⟩

/-- The procedure of a command, against the device address `a`. -/
def procedureOf (i : Instr) (a : DevAddr) (ans : Answers) : Option Run :=
  match i with
  | .wrcmdResult => procWrcmd a Pointer.result ans
  | .wrcmdConfig => procWrcmd a Pointer.config ans
  | .wrcmdLowlim => procWrcmd a Pointer.lowlim ans
  | .wrcmdHighlim => procWrcmd a Pointer.highlim ans
  | .wrcmdMfrid => procWrcmd a Pointer.mfrid ans
  | .wrcmdDevid => procWrcmd a Pointer.devid ans
  | .wrwordConfig d => procWrword a d ans
  | .rdword => procRdword a ans
  | .regrdResult => procRegrd a Pointer.result ans
  | .regrdConfig => procRegrd a Pointer.config ans
  | .regrdLowlim => procRegrd a Pointer.lowlim ans
  | .regrdHighlim => procRegrd a Pointer.highlim ans
  | .regrdMfrid => procRegrd a Pointer.mfrid ans
  | .regrdDevid => procRegrd a Pointer.devid ans
  | .rdidMfrid => procRdid a Pointer.mfrid ans
  | .rdidDevid => procRdid a Pointer.devid ans
  | .rdcfg => procRdcfg a ans
  | .wrcfg d => procWrcfg a d ans
  | .rdmeasResult => procRdmeas a Pointer.result ans
  | .rdmeasLowlim => procRdmeas a Pointer.lowlim ans
  | .rdmeasHighlim => procRdmeas a Pointer.highlim ans

/-- A draw of which nothing is looked at. -/
def drawReturn : Draw := ⟨0#8, 0#8, []⟩

/-- A draw of which only the end status is looked at. -/
def drawStatus (s : Byte) : Draw := ⟨s, 0#8, []⟩

/-- A draw of which only the available count is looked at. -/
def drawCount (c : Byte) : Draw := ⟨0#8, c, []⟩

/-- A draw of which only the bytes are looked at. -/
def drawBytes (b0 b1 : Byte) : Draw := ⟨0#8, 0#8, [b0, b1]⟩

/-- The turns in which one event happens: the answer of the primitive (R66), then the sequencer. -/
def turnsOfEvent (e : BusEvent) : List Turn :=
  match e with
  | .beginTx _ => [.transport drawReturn, .sequencer]
  | .write _ => [.transport drawReturn, .sequencer]
  | .endTx _ s => [.transport (drawStatus s), .sequencer]
  | .request _ _ => [.transport drawReturn, .sequencer]
  | .avail c => [.transport (drawCount c), .sequencer]
  | .wait _ => [.timer, .sequencer]
  | .read _ b0 b1 => [.transport (drawBytes b0 b1), .sequencer]

/-- The turns in which a trace happens with no other agent moving. -/
def turnsOf (es : List BusEvent) : List Turn := es.flatMap turnsOfEvent

end Sys2Proof.Machine
end

