-- ==== Sys2Proof/Safety.lean ====
section
/-! DEFINITION. What holds of every state a run can reach, and how far a command is from its end, in the terms statements use. -/

namespace Sys2Proof.Machine

/-- While BUSY = 1, and only then, the sequencer is at a control point of a command (R22, R24, R37, R38). -/
abbrev BusyExactlyOutsideIdle (s : State) : Prop := s.busy = true ↔ s.seqState ≠ .idle

/-- The command in flight is the one last accepted, which was a legal word, and an address was set before it (R22, R36, R74). -/
abbrev InFlightIsLastAccepted (s : State) : Prop :=
  s.busy = true →
    s.devValid = true ∧ legal s.lastCmd = true ∧ s.seqOp = s.lastCmd.extractLsb' 0 4
      ∧ s.seqPtr = s.lastCmd.extractLsb' 8 8 ∧ s.seqData = s.lastCmd.extractLsb' 16 16

/-- LASTCMD holds a legal command, or its reset value (R22, R45). -/
abbrev LastCmdLegalOrReset (s : State) : Prop := s.lastCmd = 0#32 ∨ legal s.lastCmd = true

/-- DONE is 0 while a command runs (R22, R25). -/
abbrev DoneClearWhileBusy (s : State) : Prop := s.busy = true → s.done = false

/-- A control point of the write phase, where RDWORD never is (R38). -/
abbrev inWritePhase (c : Control) : Bool := c == .wbegin || c == .wbyte || c == .wend

/-- A control point of the read phase, where a command with none never is (R39). -/
abbrev inReadPhase (c : Control) : Bool := c == .rreq || c == .rpoll || c == .rwait || c == .rread

/-- The command in flight has the phase the sequencer is in (R38, R39). -/
abbrev PhaseFitsCommand (s : State) : Prop :=
  (inWritePhase s.seqState = true → s.seqOp ≠ OpCode.rdword) ∧ (inReadPhase s.seqState = true → hasRead s.seqOp = true)

/-- S.k indexes a byte of the write phase at WBYTE (R36, R39). -/
abbrev ByteIndexInRange (s : State) : Prop :=
  s.seqState = .wbyte → s.seqK.toNat < (bytesOf s.seqOp s.seqPtr s.seqData).length

/-- S.polls is below the ceiling while the read phase polls and reads (R36, R104). -/
abbrev PollsBelowCeiling (s : State) : Prop :=
  s.seqState = .rpoll ∨ s.seqState = .rwait ∨ s.seqState = .rread → s.seqPolls.toNat < Config.pollCeiling

/-- Whether an answer is one the outstanding primitive returns (R41). -/
abbrev answerFits (c : Control) (a : Answer) : Bool :=
  match c, a with
  | .wbegin, .returned => true
  | .wbyte, .returned => true
  | .rreq, .returned => true
  | .wend, .status _ => true
  | .rpoll, .count _ => true
  | .rwait, .waited => true
  | .rread, .bytes _ _ => true
  | _, _ => false

/-- An answer that waits for the sequencer is one its outstanding primitive returns (R40, R41). -/
abbrev WaitingAnswerFits (s : State) : Prop := ∀ a, s.answer = some a → answerFits s.seqState a = true

/-- ERR holds 0, a bus-fault code or the timeout code: a multiple of 10 in -2550..0 (R29). -/
abbrev ErrLegal (s : State) : Prop := -2550 ≤ s.err.toInt ∧ s.err.toInt ≤ 0 ∧ s.err.toInt % 10 = 0

/-- POLLCNT is at most the ceiling (R34). -/
abbrev PollCntInRange (s : State) : Prop := s.pollCnt.toNat ≤ Config.pollCeiling

/-- The result registers agree with each other: on an error there is no value (R30, R151), LUX_F32 is the binary32 nearest
LUX_CENTI / 100 (R33), and lux is 0 or the decoding of WORD (R32, R151). -/
abbrev ResultsCoherent (s : State) : Prop :=
  (s.err ≠ 0#16 → s.word = 0#16 ∧ s.luxCenti = 0#27) ∧ s.luxF32 = f32OfCenti s.luxCenti.toNat
    ∧ (s.luxCenti = 0#27 ∨ s.luxCenti = centiOf s.word)

/-- What holds of every state a run reaches. -/
structure StateInv (s : State) : Prop where
  busy      : BusyExactlyOutsideIdle s
  inFlight  : InFlightIsLastAccepted s
  lastCmd   : LastCmdLegalOrReset s
  done      : DoneClearWhileBusy s
  phase     : PhaseFitsCommand s
  byteIndex : ByteIndexInRange s
  polls     : PollsBelowCeiling s
  answer    : WaitingAnswerFits s
  err       : ErrLegal s
  pollCnt   : PollCntInRange s
  results   : ResultsCoherent s

/-- The most transport events the command in flight may still take (R111, R218): each poll iteration is two, a read phase is a
request and 250 iterations, and a write phase comes before it. -/
def eventsLeft (s : State) : Nat :=
  let readLeft := 1 + 2 * Config.pollCeiling
  let afterWrite := 1 + if hasRead s.seqOp then readLeft else 0
  let bytes := (bytesOf s.seqOp s.seqPtr s.seqData).length
  match s.seqState with
  | .idle => 0
  | .wbegin => 1 + bytes + afterWrite
  | .wbyte => bytes - s.seqK.toNat + afterWrite
  | .wend => afterWrite
  | .rreq => readLeft
  | .rpoll => 2 * (Config.pollCeiling - s.seqPolls.toNat)
  | .rwait => 2 * (Config.pollCeiling - s.seqPolls.toNat) - 1
  | .rread => 1

/-- `n` steps, stopping at the first fault or refusal. -/
def runSteps (n : Nat) (s : State) : Result :=
  match n with
  | 0 => .next s
  | n + 1 =>
    match step s with
    | .next t => runSteps n t
    | .fault r => .fault r
    | .refused r => .refused r

/-- The turns of one round: the transport, the timer and the sequencer each move once, as the fairness of R217 asks. -/
def roundTurns (d : Draw) : List Turn := [.transport d, .timer, .sequencer]

/-- A draw that keeps the transport's duty of R41 (d). -/
abbrev DrawsTwoBytes (d : Draw) : Prop := d.bytes.length = 2

end Sys2Proof.Machine
end

