-- ==== Sys2Proof/Certificates/Slice0/Obligations.lean ====
section
/-! DEFINITION. The statements for the provers, in the order of the spec's files. -/

open Sys2Proof Sys2Proof.Machine

/-! ## Encoding (30_encoding.md) -/

/-- Decoding the encoding of any command gives it back, with every DATA (R80, R83, R84, R88). -/
def Obligations.DecodeOfEncodeIsTheCommand : Prop :=
  ∀ i : Instr, decode (encode i) = .ok i

/-- A word decodes to one command at most, the one it is the encoding of, and exactly the words that pass the check of R86
decode: "Each legal word matches exactly one row of `opcode_table.json`". -/
def Obligations.LegalWordsAreTheEncodings : Prop :=
  (∀ (v : Word32) (i : Instr), decode v = .ok i → encode i = v)
    ∧ ∀ v : Word32, legal v = true ↔ ∃ i, decode v = .ok i

/-- There are 131,091 legal words (R86, which the spec derives from R84 and R85). -/
def Obligations.LegalWordsNumber131091 : Prop :=
  ∃ l : List Word32, l.Nodup ∧ l.length = 131091 ∧ ∀ v, v ∈ l ↔ legal v = true

/-- A word is illegal exactly on the four grounds of R85, and a CMD write of an illegal word starts nothing and raises ILLEGAL. -/
def Obligations.IllegalWordsAreThoseOfTheFourGrounds : Prop :=
  (∀ v : Word32, legal v = false ↔
    (v.extractLsb' 0 4 = 0#4 ∨ 9 ≤ (v.extractLsb' 0 4).toNat)
      ∨ v.extractLsb' 4 4 ≠ 0#4
      ∨ v.extractLsb' 8 8 ∉ Command.allowedPtrs (v.extractLsb' 0 4)
      ∨ (v.extractLsb' 16 16 ≠ 0#16 ∧ v.extractLsb' 0 4 ≠ 0x2#4 ∧ v.extractLsb' 0 4 ≠ 0x7#4))
    ∧ ∀ (v : Word32) (s : State), s.busy = false → legal v = false →
        memWrite 0x00#8 .four v s = .next { s with illegal := true }

/-- The sample words of R90 decode to the commands it names, and its illegal words to none (R90, derived by the spec from R86). -/
def Obligations.SampleWordsDecodeAsListed : Prop :=
  decode 0x00000001#32 = .ok .wrcmdResult ∧ decode 0x00007F01#32 = .ok .wrcmdDevid
    ∧ decode 0xC8100102#32 = .ok (.wrwordConfig 0xC810#16) ∧ decode 0x00000003#32 = .ok .rdword
    ∧ decode 0x00007E04#32 = .ok .regrdMfrid ∧ decode 0x00000106#32 = .ok .rdcfg
    ∧ decode 0xCE100107#32 = .ok (.wrcfg 0xCE10#16) ∧ decode 0x00000308#32 = .ok .rdmeasHighlim
    ∧ decode 0x00007E05#32 = .ok .rdidMfrid
    ∧ ∀ v ∈ [0x00000000#32, 0x00000009#32, 0x00000011#32, 0x00000401#32, 0x00000202#32, 0x00010003#32, 0x00000105#32,
        0x00000108#32], legal v = false ∧ decodeTableWord 32 v.toNat = none

/-- The assembler's words have the fields of R80, for every operand: the operation, RSV 0, the pointer in 15:8 and the data in
31:16 (R80, R81, R88). -/
def Obligations.AssembledWordsHaveTheFieldsWritten : Prop :=
  (∀ p : Byte, commandOfWord (asmWord (.wrcmd p)) = ⟨0x1#4, 0#4, p, 0#16⟩
    ∧ commandOfWord (asmWord (.regrd p)) = ⟨0x4#4, 0#4, p, 0#16⟩
    ∧ commandOfWord (asmWord (.rdid p)) = ⟨0x5#4, 0#4, p, 0#16⟩
    ∧ commandOfWord (asmWord (.rdmeas p)) = ⟨0x8#4, 0#4, p, 0#16⟩)
    ∧ (∀ d : Word16, commandOfWord (asmWord (.wrword d)) = ⟨0x2#4, 0#4, 0x01#8, d⟩
      ∧ commandOfWord (asmWord (.wrcfg d)) = ⟨0x7#4, 0#4, 0x01#8, d⟩)
    ∧ commandOfWord (asmWord .rdword) = ⟨0x3#4, 0#4, 0x00#8, 0#16⟩
    ∧ commandOfWord (asmWord .rdcfg) = ⟨0x6#4, 0#4, 0x01#8, 0#16⟩

/-! ## A step runs the decoded command (10_state.md R22, R36, R39; log 8) -/

/-- When the host's next action writes to CMD a word that decodes to a command, and the block is idle and addressed, the step is
`exec` of that command, after the host's action and turn are taken off. -/
def Obligations.StepIssuesTheDecodedCommand : Prop :=
  ∀ (s : State) (v : Word32) (i : Instr) (p : List HostAction) (ts : List Turn),
    s.schedule = .host :: ts → s.program = .write 0x00#8 .four v :: p → s.busy = false → s.devValid = true →
    decode v = .ok i →
    step s = exec i { s with schedule := ts, program := p }

/-- At the sequencer's turn while BUSY = 1, and when no turn is left (log 3), the step is `exec` of the command that S.op, S.ptr
and S.data stand for. -/
def Obligations.StepRunsTheCommandInFlight : Prop :=
  ∀ (s : State) (i : Instr), s.busy = true → decodeFields s.seqOp s.seqPtr s.seqData = .ok i →
    (s.schedule = [] → step s = exec i s)
      ∧ ∀ ts, s.schedule = .sequencer :: ts → step s = exec i { s with schedule := ts }

/-! ## Issue and refusal (10_state.md R22, 60_exceptions.md R183 to R185) -/

/-- An idle, addressed block accepts every command: LASTCMD, S.op, S.ptr, S.data, DONE, BUSY and the entry state are written and
nothing else changes (R22, R38). For all 21 commands. -/
def Obligations.IdleAddressedBlockAcceptsEveryCommand : Prop :=
  ∀ (i : Instr) (s : State), s.busy = false → s.devValid = true →
    exec i s = .next { s with
      lastCmd := encode i, seqOp := (fieldsOf i).op, seqPtr := (fieldsOf i).ptr, seqData := (fieldsOf i).data,
      done := false, busy := true,
      seqState := if (fieldsOf i).op = 0x3#4 then .rreq else .wbegin }

/-- A CMD write is handled in the order of R22, in one step, and a CMD read returns LASTCMD with no other effect. -/
def Obligations.CommandIssueInTheOrderOfChecks : Prop :=
  (∀ (v : Word32) (s : State),
    memWrite 0x00#8 .four v s =
      if s.busy = true then .next { s with overrun := true }
      else if s.devValid = false then .next { s with illegal := true }
      else if legal v = false then .next { s with illegal := true }
      else .next { s with
        lastCmd := v, seqOp := v.extractLsb' 0 4, seqPtr := v.extractLsb' 8 8, seqData := v.extractLsb' 16 16,
        done := false, busy := true,
        seqState := if v.extractLsb' 0 4 = 0x3#4 then .rreq else .wbegin })
    ∧ (∀ s : State, memRead 0x00#8 .four s = .next { s with reads := s.reads ++ [⟨0x00#8, s.lastCmd⟩] })
    ∧ State.reset.lastCmd = 0x00000000#32

/-- ILLEGAL: an idle block refuses a CMD write when no address was set or the word is not legal, and only the ILLEGAL bit changes
(R183). -/
def Obligations.IllegalRefusalOnlySetsItsBit : Prop :=
  ∀ (v : Word32) (s : State), s.busy = false → (s.devValid = false ∨ legal v = false) →
    memWrite 0x00#8 .four v s = .next { s with illegal := true }

/-- OVERRUN: a CMD or DEVADDR write while BUSY = 1 is dropped, and only the OVERRUN bit changes (R184). -/
def Obligations.WriteWhileBusyOnlySetsOverrun : Prop :=
  ∀ (v : Word32) (s : State), s.busy = true →
    memWrite 0x00#8 .four v s = .next { s with overrun := true }
      ∧ memWrite 0x1C#8 .four v s = .next { s with overrun := true }

/-! ## STATUS, DEVADDR and the other host registers (10_state.md) -/

/-- A STATUS read shows BUSY, DONE, ILLEGAL, OVERRUN, ERRF and TMO in bits 0 to 5 and 0 above (R23). ERRF and TMO are computed
from ERR at the read, and the ERR of a transport status of 10 reads as TMO too (R28). -/
def Obligations.StatusReadShowsItsBits : Prop :=
  ∀ s : State,
    memRead 0x04#8 .four s = .next { s with reads := s.reads ++ [⟨0x04#8, statusWord s⟩] }
      ∧ (statusWord s).getLsbD 0 = s.busy ∧ (statusWord s).getLsbD 1 = s.done ∧ (statusWord s).getLsbD 2 = s.illegal
      ∧ (statusWord s).getLsbD 3 = s.overrun ∧ (statusWord s).getLsbD 4 = decide (s.err ≠ 0#16)
      ∧ (statusWord s).getLsbD 5 = decide (s.err.toInt = -100) ∧ (∀ n, 6 ≤ n → (statusWord s).getLsbD n = false)
      ∧ (s.err = errOf 10#8 → (statusWord s).getLsbD 5 = true)

/-- A STATUS write clears DONE, ILLEGAL and OVERRUN where its bits 1 to 3 are 1, at any time, and changes nothing else (R23). -/
def Obligations.StatusWriteClearsOnesOnly : Prop :=
  ∀ (v : Word32) (s : State),
    memWrite 0x04#8 .four v s = .next { s with
      done := s.done && !v.getLsbD 1, illegal := s.illegal && !v.getLsbD 2, overrun := s.overrun && !v.getLsbD 3 }

/-- DEVADDR (R35): what it reads as, what a write does while idle and while BUSY, its reset value, that VALID once set stays until
a reset, that every begin and request uses ADDR, and that no command is accepted while VALID = 0. -/
def Obligations.DevAddrHoldsTheAddressOnceWritten : Prop :=
  (∀ s : State, (readReg 0x1C#8 s).extractLsb' 0 7 = s.devAddr ∧ (readReg 0x1C#8 s).extractLsb' 7 24 = 0#24
    ∧ (readReg 0x1C#8 s).getLsbD 31 = s.devValid)
    ∧ (∀ (v : Word32) (s : State),
        memWrite 0x1C#8 .four v s =
          if s.busy = true then .next { s with overrun := true }
          else .next { s with devAddr := v.extractLsb' 0 7, devValid := true })
    ∧ State.reset.devAddr = 0x00#7 ∧ State.reset.devValid = false
    ∧ (∀ s t : State, step s = .next t → s.devValid = true → t.devValid = false → ∃ ts, s.schedule = .reset :: ts)
    ∧ (∀ (s : State) (a : DevAddr), outstanding s = some (.beginTx a) → a = s.devAddr)
    ∧ (∀ (s : State) (a : DevAddr) (n : Byte), outstanding s = some (.request a n) → a = s.devAddr)
    ∧ ∀ (v : Word32) (s : State), s.busy = false → s.devValid = false →
        memWrite 0x00#8 .four v s = .next { s with illegal := true }

/-- The result registers read as R29, R30 and R32 to R34 say: ERR sign-extended, the others zero-extended. -/
def Obligations.ResultRegistersReadExtended : Prop :=
  ∀ s : State,
    (readReg 0x08#8 s).toInt = s.err.toInt ∧ (readReg 0x0C#8 s).toNat = s.word.toNat
      ∧ (readReg 0x10#8 s).toNat = s.luxCenti.toNat ∧ readReg 0x14#8 s = s.luxF32
      ∧ (readReg 0x18#8 s).toNat = s.pollCnt.toNat

/-- PARAM reads 0x00FA000A in every state, POLL_INTERVAL_MS below and POLL_CEILING above, and ignores writes (R31). -/
def Obligations.ParamIsHardwired : Prop :=
  ∀ s : State, readReg 0x20#8 s = 0x00FA000A#32
    ∧ (readReg 0x20#8 s).extractLsb' 0 16 = BitVec.ofNat 16 Config.pollIntervalMs
    ∧ (readReg 0x20#8 s).extractLsb' 16 16 = BitVec.ofNat 16 Config.pollCeiling
    ∧ ∀ v, memWrite 0x20#8 .four v s = .next s

/-! ## Host accesses (20_memory.md) -/

/-- A host access is refused exactly when its size is not 4 or its offset is not a multiple of 4 (R63). -/
def Obligations.OnlyAlignedWholeAccessesAreDefined : Prop :=
  ∀ (off : Offset) (size : AccessSize) (v : Word32) (s : State),
    (size ≠ .four ∨ off.toNat % 4 ≠ 0 →
      memRead off size s = .refused .undefinedHostAccess ∧ memWrite off size v s = .refused .undefinedHostAccess)
    ∧ (size = .four ∧ off.toNat % 4 = 0 →
      (∃ t, memRead off size s = .next t) ∧ memWrite off size v s ≠ .refused .undefinedHostAccess)

/-- A reserved offset reads 0 and ignores writes, with no side effect (R64). -/
def Obligations.ReservedOffsetsReadZeroIgnoreWrites : Prop :=
  ∀ (off : Offset) (v : Word32) (s : State), 0x24 ≤ off.toNat → off.toNat ≤ 0xFC → off.toNat % 4 = 0 →
    memRead off .four s = .next { s with reads := s.reads ++ [⟨off, 0x00000000#32⟩] }
      ∧ memWrite off .four v s = .next s

/-- A defined host read changes nothing but what the host has seen, and a write to ERR, WORD, LUX_CENTI, LUX_F32, POLLCNT or PARAM
changes nothing at all (R67). -/
def Obligations.ReadsAndReadOnlyWritesHaveNoEffect : Prop :=
  (∀ (off : Offset) (s : State), off.toNat % 4 = 0 →
    memRead off .four s = .next { s with reads := s.reads ++ [⟨off, readReg off s⟩] })
    ∧ ∀ (off : Offset) (v : Word32) (s : State), off ∈ [0x08#8, 0x0C#8, 0x10#8, 0x14#8, 0x18#8, 0x20#8] →
        memWrite off .four v s = .next s

/-- WAITIDLE reads STATUS once a host turn and stays until bit 0 reads 0 (30_encoding.md R88). The host's program as a list in State
is the model's form (log 6). -/
def Obligations.WaitIdleRepeatsUntilNotBusy : Prop :=
  ∀ (s : State) (p : List HostAction), s.program = .waitIdle :: p →
    hostTurn s = .next { s with
      reads := s.reads ++ [⟨0x04#8, statusWord s⟩], program := if s.busy = true then .waitIdle :: p else p }

/-! ## Byte order, bytes and errors (20_memory.md, 40_bus_transaction.md) -/

/-- A read is big-endian: the first byte is bits 15:8, the second bits 7:0, and that word is what WORD holds after the READ of any
command with a read phase, in every state (R60). -/
def Obligations.ReadBytesAreAssembledBigEndian : Prop :=
  (∀ b0 b1 : Byte, (assembleWord b0 b1).extractLsb' 8 8 = b0 ∧ (assembleWord b0 b1).extractLsb' 0 8 = b1)
    ∧ ∀ (i : Instr) (s : State) (b0 b1 : Byte), hasRead (fieldsOf i).op = true →
        s.busy = true → s.seqState = .rread → s.answer = some (.bytes b0 b1) →
        ∃ t, exec i s = .next t ∧ t.word.extractLsb' 8 8 = b0 ∧ t.word.extractLsb' 0 8 = b1

/-- A configuration write sends the pointer, the high byte and the low byte, and a sensor that echoes the two bytes gives back the
word (R61). -/
def Obligations.ConfigurationWriteIsBigEndian : Prop :=
  ∀ d : Word16, ∃ hi lo : Byte,
    bytesOf 0x2#4 0x01#8 d = [0x01#8, hi, lo] ∧ bytesOf 0x7#4 0x01#8 d = [0x01#8, hi, lo]
      ∧ hi = d.extractLsb' 8 8 ∧ lo = d.extractLsb' 0 8 ∧ assembleWord hi lo = d

/-- The bytes of a write phase: three for WRWORD and WRCFG, whose pointer is always 0x01, and the pointer alone otherwise. Every
command but RDWORD enters its write phase when it is accepted, RDWORD never does, and what is written there are these bytes
(R100). -/
def Obligations.BytesOfTheWritePhase : Prop :=
  (∀ i : Instr,
    let c := fieldsOf i
    if c.op = 0x2#4 ∨ c.op = 0x7#4 then
      c.ptr = 0x01#8 ∧ bytesOf c.op c.ptr c.data = [c.ptr, c.data.extractLsb' 8 8, c.data.extractLsb' 0 8]
    else bytesOf c.op c.ptr c.data = [c.ptr])
    ∧ (∀ (i : Instr) (s : State), s.busy = false → s.devValid = true →
        ∃ t, exec i s = .next t ∧ t.seqState = if i = .rdword then .rreq else .wbegin)
    ∧ (∀ s t : State, s.busy = true → inWritePhase s.seqState = false → exec .rdword s = .next t →
        inWritePhase t.seqState = false)
    ∧ ∀ s : State, s.seqState = .wbyte →
        outstanding s = ((bytesOf s.seqOp s.seqPtr s.seqData)[s.seqK.toNat]?).map .write

/-- `errOf(s) = -10 * s` exactly, in -2550..0, so that it is 0 for status 0 only and a negative multiple of 10 for every other
(R102). -/
def Obligations.ErrorIsMinusTenTimesStatus : Prop :=
  ∀ st : Byte, (errOf st).toInt = -10 * (st.toNat : Int) ∧ -2550 ≤ (errOf st).toInt ∧ (errOf st).toInt ≤ 0
    ∧ (errOf st = 0#16 ↔ st = 0#8) ∧ (errOf st = Config.timeoutCode ↔ st = 10#8)

/-! ## The sequencer's steps (10_state.md R38, R39; R39 is derived by the spec from R38 and R104)

That an answer waits in State until the sequencer takes it is the model's form, here and below (log 4). -/

/-- The write phase (R101, R39): WBEGIN, WBYTE and a successful WEND of a command with a read phase, for every command, in every
state at that control point whose primitive has returned. The next states are written out whole, so they say what stays too. -/
def Obligations.WritePhaseStepsOfEveryCommand : Prop :=
  ∀ (i : Instr) (s : State), s.busy = true →
    (s.seqState = .wbegin → s.answer = some .returned →
      exec i s = .next { s with
        answer := none, seqK := 0#2, seqState := .wbyte, trace := s.trace ++ [.beginTx s.devAddr] })
    ∧ (∀ b, s.seqState = .wbyte → s.answer = some .returned →
        (bytesOf s.seqOp s.seqPtr s.seqData)[s.seqK.toNat]? = some b →
        exec i s = .next { s with
          answer := none, seqK := s.seqK + 1#2, trace := s.trace ++ [.write b],
          seqState := if s.seqK.toNat + 1 = (bytesOf s.seqOp s.seqPtr s.seqData).length then .wend else .wbyte })
    ∧ (s.seqState = .wend → s.answer = some (.status 0#8) → hasRead s.seqOp = true →
        exec i s = .next { s with answer := none, seqState := .rreq, trace := s.trace ++ [.endTx true 0#8] })

/-- The steps of the read phase before its end (R103, R104, R39), for every command, in every state at that control point:
the request, the check, and a wait below the ceiling. The read phase has no begin, no write and no end: "Its only transport
primitives are request, available and read". -/
def Obligations.ReadPhaseStepsOfEveryCommand : Prop :=
  (∀ (i : Instr) (s : State), s.busy = true →
    (s.seqState = .rreq → s.answer = some .returned →
      exec i s = .next { s with
        answer := none, seqPolls := 0#8, seqState := .rpoll, trace := s.trace ++ [.request s.devAddr 2#8] })
    ∧ (∀ c, s.seqState = .rpoll → s.answer = some (.count c) →
        exec i s = .next { s with
          answer := none, trace := s.trace ++ [.avail c], seqState := if 2 ≤ c.toNat then .rread else .rwait })
    ∧ (s.seqState = .rwait → s.answer = some .waited → s.seqPolls.toNat < 249 →
        exec i s = .next { s with
          answer := none, trace := s.trace ++ [.wait 10], seqPolls := s.seqPolls + 1#8, seqState := .rpoll }))
    ∧ ∀ s : State, inReadPhase s.seqState = true →
        outstanding s = some (.request s.devAddr 2#8) ∨ outstanding s = some .available ∨ outstanding s = some (.wait 10)
          ∨ outstanding s = some (.read 2#8)

/-- While the outstanding primitive has not returned, whichever of the seven it is, no command moves (R40). -/
def Obligations.CommandWaitsForTheAnswer : Prop :=
  ∀ (i : Instr) (s : State) (p : Primitive), s.busy = true → s.answer = none → outstanding s = some p → exec i s = .next s

/-- A primitive that never returns is stuck (R41 (a), R196, I13 of 93_implementation_defined.md): while the transport has no turn
and the block no reset, a step leaves BUSY = 1 with the command at the same primitive, unanswered, with no event, no completion
and no result; so does a wait while the timer has no turn; and when no turn is left the step changes nothing, with no fault. -/
def Obligations.PrimitiveThatNeverReturnsIsStuck : Prop :=
  (∀ s t : State, StateInv s → s.busy = true → s.answer = none → (∀ ts, s.schedule ≠ .reset :: ts) →
    (s.seqState ≠ .rwait ∧ ∀ d ts, s.schedule ≠ .transport d :: ts) ∨ (s.seqState = .rwait ∧ ∀ ts, s.schedule ≠ .timer :: ts) →
    step s = .next t →
    t.busy = true ∧ t.answer = none ∧ t.seqState = s.seqState ∧ outstanding t = outstanding s ∧ t.trace = s.trace
      ∧ t.lastCmd = s.lastCmd ∧ t.err = s.err ∧ t.word = s.word ∧ t.luxCenti = s.luxCenti ∧ t.luxF32 = s.luxF32
      ∧ t.pollCnt = s.pollCnt)
    ∧ ∀ s : State, StateInv s → s.busy = true → s.answer = none → s.schedule = [] → step s = .next s

/-- The transport returns from the outstanding begin, write or request, and answers an end, available or read with whatever it
draws, and the timer ends the wait (R41, R191): every draw is a next state, but for a read of other than two bytes, which is
refused. -/
def Obligations.AnswersAreTheDraws : Prop :=
  ∀ (s : State) (d : Draw), s.answer = none →
    (s.seqState = .wbegin → transportTurn d s = .next { s with answer := some .returned })
    ∧ (∀ b, s.seqState = .wbyte → (bytesOf s.seqOp s.seqPtr s.seqData)[s.seqK.toNat]? = some b →
        transportTurn d s = .next { s with answer := some .returned })
    ∧ (s.seqState = .rreq → transportTurn d s = .next { s with answer := some .returned })
    ∧ (s.seqState = .wend → transportTurn d s = .next { s with answer := some (.status d.status) })
    ∧ (s.seqState = .rpoll → transportTurn d s = .next { s with answer := some (.count d.count) })
    ∧ (s.seqState = .rread → ∀ b0 b1, d.bytes = [b0, b1] →
        transportTurn d s = .next { s with answer := some (.bytes b0 b1) })
    ∧ (s.seqState = .rread → d.bytes.length ≠ 2 → transportTurn d s = .refused .readNotTwoBytes)
    ∧ (s.seqState = .rwait → timerTurn s = .next { s with answer := some .waited })

/-! ## How commands complete (10_state.md R37, 40_bus_transaction.md, 41_register_value.md) -/

/-- WRCMD (six), WRWORD and WRCFG complete at their END with ERR = errOf(s) and no value, whatever the status (R106, R107, R142). -/
def Obligations.WriteCommandsCompleteAtTheirEnd : Prop :=
  ∀ (i : Instr) (s : State) (st : Byte),
    i ∈ [.wrcmdResult, .wrcmdConfig, .wrcmdLowlim, .wrcmdHighlim, .wrcmdMfrid, .wrcmdDevid] ∨ (∃ d, i = .wrwordConfig d)
      ∨ (∃ d, i = .wrcfg d) →
    s.busy = true → s.seqOp = (fieldsOf i).op → s.seqState = .wend → s.answer = some (.status st) →
    exec i s = .next { s with
      answer := none, trace := s.trace ++ [.endTx true st],
      word := 0#16, err := BitVec.ofInt 16 (-10 * (st.toNat : Int)), luxCenti := 0#27, luxF32 := 0#32, pollCnt := 0#8,
      busy := false, done := true, seqState := .idle }

/-- RDWORD, REGRD (six), RDID (two) and RDCFG complete at their READ with the word big-endian, ERR = 0, no lux, and the poll count
(R108, R109, R140, R141). -/
def Obligations.WordReadsCompleteAtTheirRead : Prop :=
  ∀ (i : Instr) (s : State) (b0 b1 : Byte),
    i ∈ [.rdword, .regrdResult, .regrdConfig, .regrdLowlim, .regrdHighlim, .regrdMfrid, .regrdDevid, .rdidMfrid, .rdidDevid,
      .rdcfg] →
    s.busy = true → s.seqState = .rread → s.answer = some (.bytes b0 b1) →
    exec i s = .next { s with
      answer := none, trace := s.trace ++ [.read 2#8 b0 b1], seqWord := b0 ++ b1,
      word := b0 ++ b1, err := 0#16, luxCenti := 0#27, luxF32 := 0#32, pollCnt := s.seqPolls,
      busy := false, done := true, seqState := .idle }

/-- RDMEAS (three) completes at its READ with the word, LUX_CENTI = MANT × 2^EXP exactly, LUX_F32 = f32 of the word, ERR = 0 and
the poll count (R143, R146). -/
def Obligations.MeasurementsCompleteAtTheirRead : Prop :=
  ∀ (i : Instr) (s : State) (b0 b1 : Byte), i ∈ [.rdmeasResult, .rdmeasLowlim, .rdmeasHighlim] →
    s.busy = true → s.seqState = .rread → s.answer = some (.bytes b0 b1) →
    ∃ centi : BitVec 27, centi.toNat = (b0 ++ b1).toNat % 4096 * 2 ^ ((b0 ++ b1).toNat / 4096) ∧
      exec i s = .next { s with
        answer := none, trace := s.trace ++ [.read 2#8 b0 b1], seqWord := b0 ++ b1,
        word := b0 ++ b1, err := 0#16, luxCenti := centi, luxF32 := f32Of (b0 ++ b1), pollCnt := s.seqPolls,
        busy := false, done := true, seqState := .idle }

/-- A failed write phase ends any command at once, with the bus fault in ERR, no value and no REQUEST after it (R109, R181, R185,
R186). -/
def Obligations.BusFaultEndsEveryCommand : Prop :=
  ∀ (i : Instr) (s : State) (st : Byte), s.busy = true → s.seqState = .wend → s.answer = some (.status st) → st ≠ 0#8 →
    exec i s = .next { s with
      answer := none, trace := s.trace ++ [.endTx true st],
      word := 0#16, err := BitVec.ofInt 16 (-10 * (st.toNat : Int)), luxCenti := 0#27, luxF32 := 0#32, pollCnt := 0#8,
      busy := false, done := true, seqState := .idle }

/-- The 250th wait ends any command with a read phase as a timeout: ERR = -100, no value, POLLCNT = 250, and no READ (R104, R181,
R186). -/
def Obligations.TheCeilingEndsEveryReadCommand : Prop :=
  ∀ (i : Instr) (s : State), hasRead (fieldsOf i).op = true → s.busy = true → s.seqState = .rwait →
    s.answer = some .waited → s.seqPolls = 249#8 →
    exec i s = .next { s with
      answer := none, trace := s.trace ++ [.wait 10], seqPolls := 250#8,
      word := 0#16, err := BitVec.ofInt 16 (-100), luxCenti := 0#27, luxF32 := 0#32, pollCnt := 250#8,
      busy := false, done := true, seqState := .idle }

/-! ## What a command leaves alone, and what its events are -/

/-- The frame of every command's sequencer step: LASTCMD, ILLEGAL, OVERRUN, DEVADDR, S.op, S.ptr, S.data, the host and the schedule
stay; the result registers and DONE stay unless the step completes the command; the trace grows by at most one event. -/
def Obligations.SequencerStepLeavesTheRestAlone : Prop :=
  ∀ (i : Instr) (s t : State), s.busy = true → exec i s = .next t →
    (t.lastCmd = s.lastCmd ∧ t.illegal = s.illegal ∧ t.overrun = s.overrun ∧ t.devAddr = s.devAddr
      ∧ t.devValid = s.devValid ∧ t.seqOp = s.seqOp ∧ t.seqPtr = s.seqPtr ∧ t.seqData = s.seqData
      ∧ t.program = s.program ∧ t.schedule = s.schedule ∧ t.reads = s.reads)
    ∧ (t.busy = true → t.done = s.done ∧ t.err = s.err ∧ t.word = s.word ∧ t.luxCenti = s.luxCenti ∧ t.luxF32 = s.luxF32
      ∧ t.pollCnt = s.pollCnt)
    ∧ (t.busy = false → t.done = true ∧ t.seqState = .idle ∧ ∃ e, t.trace = s.trace ++ [e])
    ∧ (t.trace = s.trace ∨ ∃ e, t.trace = s.trace ++ [e])

/-- Each event a command adds to the trace is the primitive its control point has outstanding (R38), which is never
`initialize()` (R205) and asks for stop 1 and count 2 only (R40). -/
def Obligations.EventsAreTheOutstandingPrimitives : Prop :=
  (∀ (i : Instr) (s t : State), s.busy = true → exec i s = .next t →
    t.trace = s.trace
      ∨ (∃ a, outstanding s = some (.beginTx a) ∧ t.trace = s.trace ++ [.beginTx a])
      ∨ (∃ b, outstanding s = some (.write b) ∧ t.trace = s.trace ++ [.write b])
      ∨ (∃ stop st, outstanding s = some (.endTx stop) ∧ t.trace = s.trace ++ [.endTx stop st])
      ∨ (∃ a n, outstanding s = some (.request a n) ∧ t.trace = s.trace ++ [.request a n])
      ∨ (∃ c, outstanding s = some .available ∧ t.trace = s.trace ++ [.avail c])
      ∨ (∃ ms, outstanding s = some (.wait ms) ∧ t.trace = s.trace ++ [.wait ms])
      ∨ (∃ n b0 b1, outstanding s = some (.read n) ∧ t.trace = s.trace ++ [.read n b0 b1]))
    ∧ ∀ s : State, outstanding s ≠ some .init ∧ (∀ stop, outstanding s = some (.endTx stop) → stop = true)
        ∧ (∀ a n, outstanding s = some (.request a n) → a = s.devAddr ∧ n = 2#8)
        ∧ (∀ n, outstanding s = some (.read n) → n = 2#8) ∧ ∀ ms, outstanding s = some (.wait ms) → ms = 10

/-! ## The whole machine -/

/-- After reset every piece of block state has the value R45 lists, and the registers read as it says. -/
def Obligations.ResetLeavesTheListedValues : Prop :=
  let s := State.reset
  s.lastCmd = 0x00000000#32 ∧ readReg 0x04#8 s = 0x00000000#32 ∧ s.busy = false ∧ s.done = false ∧ s.illegal = false
    ∧ s.overrun = false ∧ errF s = false ∧ tmo s = false ∧ s.err = 0#16 ∧ s.word = 0x0000#16 ∧ s.luxCenti = 0#27
    ∧ s.luxF32 = 0x00000000#32 ∧ s.pollCnt = 0#8 ∧ s.devAddr = 0x00#7 ∧ s.devValid = false
    ∧ readReg 0x20#8 s = 0x00FA000A#32 ∧ s.seqState = .idle ∧ s.seqOp = 0#4 ∧ s.seqPtr = 0#8 ∧ s.seqData = 0#16
    ∧ s.seqK = 0#2 ∧ s.seqPolls = 0#8 ∧ s.seqWord = 0#16

/-- A reset at any moment puts the block in its reset state in one step, abandons a command in flight with no event and no
completion, and leaves the host, the turns still to come and what was observed (R200, R202; that the host and the observation stay
is the model's reading, log 10). -/
def Obligations.ResetAbandonsTheCommandInFlight : Prop :=
  ∀ (s : State) (ts : List Turn), s.schedule = .reset :: ts →
    step s = .next { State.reset with program := s.program, schedule := ts, trace := s.trace, reads := s.reads }

/-- The invariant holds after reset. -/
def Obligations.ResetStateSatisfiesTheInvariant : Prop := StateInv State.reset

/-- Every step keeps the invariant, from every state that has it, whichever agent moves and whatever it does. -/
def Obligations.EveryStepKeepsTheInvariant : Prop :=
  ∀ s t : State, StateInv s → step s = .next t → StateInv t

/-- In a state with the invariant no step faults, and a step refuses only the two runs R196 says to refuse: an undefined host
access at the host's turn, and a read of other than two bytes at the transport's. -/
def Obligations.InvariantStatesNeverFault : Prop :=
  ∀ s : State, StateInv s →
    (∀ f, step s ≠ .fault f)
    ∧ ∀ r, step s = .refused r →
        (r = .undefinedHostAccess ∧ ∃ ts, s.schedule = .host :: ts)
          ∨ (r = .readNotTwoBytes ∧ s.seqState = .rread ∧ ∃ d ts, s.schedule = .transport d :: ts ∧ d.bytes.length ≠ 2)

/-- Nothing the host does while BUSY = 1 changes the command in flight, its address, its trace or any result register: the only
effects are on DONE, ILLEGAL, OVERRUN, the host itself and what it has read (R74, R184, R188). -/
def Obligations.HostCannotDisturbACommandInFlight : Prop :=
  ∀ s t : State, s.busy = true → hostTurn s = .next t →
    ∃ (d il ov : Bool) (p : List HostAction) (rs : List HostRead),
      t = { s with done := d, illegal := il, overrun := ov, program := p, reads := rs }

/-- A step changes the result registers only where it completes a command or resets the block (R21, R37, R66): while BUSY = 1 a
host reads the previous command's values. -/
def Obligations.ResultsChangeOnlyAtCompletion : Prop :=
  ∀ s t : State, step s = .next t →
    (t.err = s.err ∧ t.word = s.word ∧ t.luxCenti = s.luxCenti ∧ t.luxF32 = s.luxF32 ∧ t.pollCnt = s.pollCnt)
      ∨ (s.busy = true ∧ t.busy = false ∧ t.done = true ∧ t.seqState = .idle ∧ ∃ e, t.trace = s.trace ++ [e])
      ∨ ∃ ts, s.schedule = .reset :: ts

/-- BUSY is raised only by an accepted issue and lowered only by a completion or a reset (R24, which the spec derives; R71 (b): the
trace grows only while BUSY = 1). -/
def Obligations.BusySpansExactlyACommand : Prop :=
  ∀ s t : State, step s = .next t →
    (s.busy = false → t.busy = true →
      ∃ ts p v, s.schedule = .host :: ts ∧ s.program = .write 0x00#8 .four v :: p ∧ s.devValid = true ∧ legal v = true
        ∧ t.lastCmd = v ∧ t.done = false ∧ t.trace = s.trace)
    ∧ (s.busy = true → t.busy = false →
        (t.done = true ∧ t.seqState = .idle ∧ ∃ e, t.trace = s.trace ++ [e]) ∨ ∃ ts, s.schedule = .reset :: ts)
    ∧ (t.trace ≠ s.trace → s.busy = true)

/-- ILLEGAL is set by every refusal of R183 and OVERRUN by every CMD or DEVADDR write while BUSY = 1, nothing else sets them, and
only a host write of 1 to STATUS bit 2 (bit 3) or a reset clears them (R26, R27). -/
def Obligations.RefusalBitsStayUntilCleared : Prop :=
  (∀ (v : Word32) (s : State), s.busy = false → (s.devValid = false ∨ legal v = false) →
    ∃ t, memWrite 0x00#8 .four v s = .next t ∧ t.illegal = true)
    ∧ (∀ (v : Word32) (s : State), s.busy = true →
        (∃ t, memWrite 0x00#8 .four v s = .next t ∧ t.overrun = true)
          ∧ ∃ t, memWrite 0x1C#8 .four v s = .next t ∧ t.overrun = true)
    ∧ ∀ s t : State, step s = .next t →
        (s.illegal = true → t.illegal = false →
          (∃ ts, s.schedule = .reset :: ts)
            ∨ ∃ ts p v, s.schedule = .host :: ts ∧ s.program = .write 0x04#8 .four v :: p ∧ v.getLsbD 2 = true)
        ∧ (s.overrun = true → t.overrun = false →
          (∃ ts, s.schedule = .reset :: ts)
            ∨ ∃ ts p v, s.schedule = .host :: ts ∧ s.program = .write 0x04#8 .four v :: p ∧ v.getLsbD 3 = true)
        ∧ (s.illegal = false → t.illegal = true →
          ∃ ts p v, s.schedule = .host :: ts ∧ s.program = .write 0x00#8 .four v :: p ∧ s.busy = false
            ∧ (s.devValid = false ∨ legal v = false))
        ∧ (s.overrun = false → t.overrun = true →
          ∃ ts p v off, s.schedule = .host :: ts ∧ s.program = .write off .four v :: p ∧ s.busy = true
            ∧ (off = 0x00#8 ∨ off = 0x1C#8))

/-! ## Completion of whole commands (40_bus_transaction.md R111, 70_reset_and_hazards.md R217) -/

/-- A command in flight has at most 504 transport events left (R111, R217), and each step of it that adds an event leaves it
fewer. -/
def Obligations.EveryEventBringsTheEndNearer : Prop :=
  ∀ s : State, StateInv s → s.busy = true →
    eventsLeft s ≤ 504
      ∧ ∀ (i : Instr) (t : State), decodeFields s.seqOp s.seqPtr s.seqData = .ok i → exec i s = .next t →
          t.trace ≠ s.trace → eventsLeft t < eventsLeft s

/-- A command in flight completes when the transport, the timer and the sequencer each move once a round, for as many rounds as
it has events left, whatever the transport answers: the premise is the fairness that R217 names and the duty of R41 (d). The turns and
draws as plain data are the model's form (log 1, log 2). -/
def Obligations.FairRoundsCompleteTheCommand : Prop :=
  ∀ (s : State) (ds : List Draw) (ts : List Turn), StateInv s → s.busy = true → (∀ d ∈ ds, DrawsTwoBytes d) →
    ds.length = eventsLeft s → s.schedule = ds.flatMap roundTurns ++ ts →
    ∃ t, runSteps (3 * ds.length) s = .next t ∧ t.busy = false ∧ t.done = true ∧ t.lastCmd = s.lastCmd ∧ t.schedule = ts

/-- The machine runs every command as the procedure of its rule says (R106 to R109, R140 to R143): from an idle, addressed block
whose host issues the command, the turns in which the procedure's events happen lead to a state with exactly those events added
to the trace and exactly the procedure's results. The transport's answers as a finite list are the model's form (log 21). -/
def Obligations.SequencerRunsTheProcedureOfItsRule : Prop :=
  ∀ (i : Instr) (ans : Answers) (r : Run) (s : State) (p : List HostAction) (ts : List Turn),
    s.busy = false → s.devValid = true → s.answer = none → procedureOf i s.devAddr ans = some r →
    s.program = hostIssue (encode i) :: p → s.schedule = .host :: turnsOf r.events ++ ts →
    ∃ t, runSteps (1 + (turnsOf r.events).length) s = .next t
      ∧ t.trace = s.trace ++ r.events
      ∧ t.word = r.results.word ∧ t.err = r.results.err ∧ t.luxCenti = r.results.luxCenti
      ∧ t.luxF32 = r.results.luxF32 ∧ t.pollCnt = r.results.pollCnt
      ∧ t.busy = false ∧ t.done = true ∧ t.seqState = .idle ∧ t.answer = none ∧ t.lastCmd = encode i
      ∧ t.illegal = s.illegal ∧ t.overrun = s.overrun ∧ t.devAddr = s.devAddr ∧ t.devValid = true
      ∧ t.program = p ∧ t.schedule = ts ∧ t.reads = s.reads

/-- The number of transport events of every command, on success, on a bus fault and on a timeout (R111, derived by the spec from
R101, R104 and R105, for its four commands; the others have the traces of these, R140 to R143). -/
def Obligations.EventCountsOfEveryCommand : Prop :=
  ∀ (i : Instr) (a : DevAddr) (ans : Answers) (r : Run), procedureOf i a ans = some r →
    let op := (fieldsOf i).op
    (op = 0x1#4 → r.events.length = 3)
      ∧ (op = 0x2#4 ∨ op = 0x7#4 → r.events.length = 5)
      ∧ (op = 0x3#4 → r.results.err = 0#16 → r.events.length = 3 + 2 * r.results.pollCnt.toNat)
      ∧ (op = 0x3#4 → r.results.err ≠ 0#16 → r.events.length = 501)
      ∧ (op ∈ [0x4#4, 0x5#4, 0x6#4, 0x8#4] → ans.status ≠ 0#8 → r.events.length = 3)
      ∧ (op ∈ [0x4#4, 0x5#4, 0x6#4, 0x8#4] → ans.status = 0#8 → r.results.err = 0#16 →
          r.events.length = 6 + 2 * r.results.pollCnt.toNat)
      ∧ (op ∈ [0x4#4, 0x5#4, 0x6#4, 0x8#4] → ans.status = 0#8 → r.results.err ≠ 0#16 → r.events.length = 504)

/-- The bounded poll as the read phase of R103 to R105: (a) a first check that finds 2 bytes ends it with no wait; (b) 250 checks
that find fewer end it as a timeout after exactly 250 waits, with no READ and whatever follows never asked; (c) where the first
check to find 2 bytes comes after k - 1 others, k - 1 is the poll count; (d) the longest wait is 2500 ms (R104). -/
def Obligations.BoundedPollTimesOutAtTheCeiling : Prop :=
  (∀ (a : DevAddr) (ans : Answers) (c : Byte) (cs : List Byte), ans.counts = c :: cs → 2 ≤ c.toNat →
        readPhase a ans = some ⟨[.request a 2#8, .avail c, .read 2#8 ans.b0 ans.b1], ans.b0 ++ ans.b1, 0#16, 0#8⟩)
    ∧ (∀ (a : DevAddr) (ans : Answers), 250 ≤ ans.counts.length → (∀ c ∈ ans.counts.take 250, c.toNat < 2) →
        readPhase a ans = some
          ⟨.request a 2#8 :: (ans.counts.take 250).flatMap (fun c => [.avail c, .wait 10]), 0#16, BitVec.ofInt 16 (-100), 250#8⟩)
    ∧ (∀ (a : DevAddr) (ans : Answers) (early : List Byte) (c : Byte) (late : List Byte),
        ans.counts = early ++ c :: late → early.length < 250 → (∀ e ∈ early, e.toNat < 2) → 2 ≤ c.toNat →
        readPhase a ans = some
          ⟨.request a 2#8 :: early.flatMap (fun e => [.avail e, .wait 10]) ++ [.avail c, .read 2#8 ans.b0 ans.b1],
            ans.b0 ++ ans.b1, 0#16, BitVec.ofNat 8 early.length⟩)
    ∧ Config.pollCeiling * Config.pollIntervalMs = 2500

/-- Identifier and configuration reads differ from REGRD in name only (R152, derived by the spec): in one state the machine takes
the same step for them, whatever the control point, and their procedures are REGRD's. -/
def Obligations.IdentifierReadsBehaveAsRegisterReads : Prop :=
  (∀ s : State, s.busy = true →
    exec .rdidMfrid s = exec .regrdMfrid s ∧ exec .rdidDevid s = exec .regrdDevid s ∧ exec .rdcfg s = exec .regrdConfig s)
    ∧ ∀ (a : DevAddr) (ans : Answers),
        procedureOf .rdidMfrid a ans = procedureOf .regrdMfrid a ans
          ∧ procedureOf .rdidDevid a ans = procedureOf .regrdDevid a ans
          ∧ procedureOf .rdcfg a ans = procedureOf .regrdConfig a ans

/-- The measurement outcome (R151, derived by the spec): on an error no value, on success lux decodes WORD. -/
def Obligations.MeasurementOutcomeIsCoherent : Prop :=
  ∀ (i : Instr) (a : DevAddr) (ans : Answers) (r : Run), i ∈ [.rdmeasResult, .rdmeasLowlim, .rdmeasHighlim] →
    procedureOf i a ans = some r →
    (r.results.err ≠ 0#16 → r.results.luxCenti = 0#27 ∧ r.results.luxF32 = 0x00000000#32 ∧ r.results.word = 0x0000#16)
      ∧ (r.results.err = 0#16 →
          r.results.luxCenti = centiOf r.results.word ∧ r.results.luxF32 = f32Of r.results.word)

/-- The status-10 collision (R212, derived by the spec): ERR = -100 comes from a timeout with POLLCNT = 250 and no READ, or from a
transport status of 10 with POLLCNT = 0, and POLLCNT tells the two apart. -/
def Obligations.PollCountTellsTimeoutFromStatusTen : Prop :=
  ∀ (i : Instr) (a : DevAddr) (ans : Answers) (r : Run), procedureOf i a ans = some r → r.results.err.toInt = -100 →
    (r.results.pollCnt = 250#8 ∧ r.events.count (.wait 10) = 250 ∧ ∀ n b0 b1, BusEvent.read n b0 b1 ∉ r.events)
      ∨ (r.results.pollCnt = 0#8 ∧ BusEvent.endTx true 10#8 ∈ r.events ∧ BusEvent.wait 10 ∉ r.events)

/-! ## The lux decoder (41_register_value.md) -/

/-- EXP is bits 15:12 and MANT bits 11:0, both unsigned (R144). -/
def Obligations.ResultWordFields : Prop :=
  ∀ w : Word16, (expOf w).toNat = w.toNat / 4096 ∧ (mantOf w).toNat = w.toNat % 4096 ∧ expOf w ++ mantOf w = w

/-- lux = 0.01 × 2^EXP × MANT = MANT × 2^EXP / 100 exactly, from 0 to 1,341,849.6 (R145). -/
def Obligations.LuxIsTheExactRational : Prop :=
  ∀ w : Word16, luxOf w = 1 / 100 * 2 ^ (expOf w).toNat * ((mantOf w).toNat : ℚ)
    ∧ luxOf w = ((mantOf w).toNat : ℚ) * 2 ^ (expOf w).toNat / 100
    ∧ 0 ≤ luxOf w ∧ luxOf w ≤ 13418496 / 10

/-- LUX_CENTI holds lux in hundredths without rounding, in 27 bits, and reads as zero-extended (R146, derived by the spec). -/
def Obligations.LuxCentiHoldsLuxExactly : Prop :=
  (∀ w : Word16, luxOf w = ((centiOf w).toNat : ℚ) / 100 ∧ (centiOf w).toNat ≤ 134184960)
    ∧ ∀ (w : Word16) (s : State), s.luxCenti = centiOf w →
        ((readReg 0x10#8 s).toNat : ℚ) / 100 = luxOf w

/-- LUX_F32 is the binary32 nearest the exact lux (R147): no finite binary32 is nearer, one equally near would have to be the same
number, it is +0 exactly for MANT = 0, it is otherwise a normal number below infinity, and it is exact where centi is a multiple
of 25. The rule's (d), about another computation, is not stated. The integer algorithm that `f32Of` runs is the model's (log 12). -/
def Obligations.LuxF32IsTheNearestBinary32 : Prop :=
  ∀ w : Word16,
    (∀ x : Word32, binary32Finite x = true →
      |binary32Value (f32Of w) - luxOf w| ≤ |binary32Value x - luxOf w|
        ∧ (|binary32Value (f32Of w) - luxOf w| = |binary32Value x - luxOf w| → binary32Value x = binary32Value (f32Of w)))
    ∧ (f32Of w = 0x00000000#32 ↔ mantOf w = 0#12)
    ∧ (mantOf w ≠ 0#12 → 0x3C23D70A ≤ (f32Of w).toNat ∧ (f32Of w).toNat ≤ 0x49A3CCCD)
    ∧ ((centiOf w).toNat % 25 = 0 → binary32Value (f32Of w) = luxOf w)

/-- The decoder's laws (R148): it depends on the word alone, so that RDMEAS gives the same lux for the same bytes in any two
states; centi rises strictly with MANT and f32 does not fall; one more in EXP doubles both exactly; and it is not one-to-one. -/
def Obligations.DecoderLawsHold : Prop :=
  (∀ (s s' t t' : State) (b0 b1 : Byte) (i i' : Instr),
      i ∈ [.rdmeasResult, .rdmeasLowlim, .rdmeasHighlim] → i' ∈ [.rdmeasResult, .rdmeasLowlim, .rdmeasHighlim] →
      s.busy = true → s'.busy = true → s.seqState = .rread → s'.seqState = .rread →
      s.answer = some (.bytes b0 b1) → s'.answer = some (.bytes b0 b1) → exec i s = .next t → exec i' s' = .next t' →
      t.luxCenti = t'.luxCenti ∧ t.luxF32 = t'.luxF32)
    ∧ (∀ w w' : Word16, expOf w = expOf w' → (mantOf w).toNat < (mantOf w').toNat →
        (centiOf w).toNat < (centiOf w').toNat ∧ binary32Value (f32Of w) ≤ binary32Value (f32Of w'))
    ∧ (∀ w : Word16, (expOf w).toNat ≤ 14 →
        (centiOf (w + 0x1000#16)).toNat = 2 * (centiOf w).toNat
          ∧ binary32Value (f32Of (w + 0x1000#16)) = 2 * binary32Value (f32Of w))
    ∧ centiOf 0x0002#16 = 2#27 ∧ centiOf 0x1001#16 = 2#27

/-- The field accessors of a word (R154): a get reads the field, a set writes it and leaves every other bit, so that the raw word
and the field view stay one value. -/
def Obligations.FieldAccessorsReadAndWriteOneField : Prop :=
  ∀ (f : WordField) (w x : Word16), f.lo ≤ f.hi → f.hi ≤ 15 →
    (getField f w).toNat = w.toNat / 2 ^ f.lo % 2 ^ (f.hi - f.lo + 1)
      ∧ (getField f (setField f w x)).toNat = x.toNat % 2 ^ (f.hi - f.lo + 1)
      ∧ ∀ n, n < f.lo ∨ f.hi < n → (setField f w x).getLsbD n = w.getLsbD n
end

