-- ==== Sys2Proof/Laws/Decode.lean ====
section
/-! SUPPORT. The fields of a command word and of an encoding. -/

namespace Sys2Proof

/-- The bits of a command word, field by field. -/
theorem wordOfCommand_getLsbD (c : Command) (n : Nat) :
    (wordOfCommand c).getLsbD n =
      if n < 4 then c.op.getLsbD n else if n < 8 then c.rsv.getLsbD (n - 4)
      else if n < 16 then c.ptr.getLsbD (n - 8) else c.data.getLsbD (n - 16) := by
  have h : (wordOfCommand c).getLsbD n = (c.data ++ c.ptr ++ c.rsv ++ c.op : BitVec (16 + 8 + 4 + 4)).getLsbD n := rfl
  rw [h]
  simp only [BitVec.getLsbD_append]
  split
  · rfl
  · by_cases h8 : n < 8
    · simp only [show n - 4 < 4 by omega, h8, ite_true]
    · by_cases h16 : n < 16
      · simp only [show ¬ n - 4 < 4 by omega, show n - 4 - 4 < 8 by omega, h8, h16, ite_true, ite_false]
        congr 1
      · simp only [show ¬ n - 4 < 4 by omega, show ¬ n - 4 - 4 < 8 by omega, h8, h16, ite_false]
        congr 1

@[simp] theorem commandOfWord_wordOfCommand (c : Command) : commandOfWord (wordOfCommand c) = c := by
  obtain ⟨op, rsv, ptr, data⟩ := c
  simp only [commandOfWord, Command.mk.injEq]
  refine ⟨?_, ?_, ?_, ?_⟩ <;>
    · ext i hi
      simp only [BitVec.getElem_extractLsb', wordOfCommand_getLsbD]
      simp [BitVec.getLsbD_eq_getElem, hi]
      try first | omega | (rw [if_neg (by omega)]; first | rw [if_pos (by omega)] | rw [if_neg (by omega)])

@[simp] theorem wordOfCommand_commandOfWord (v : Word32) : wordOfCommand (commandOfWord v) = v := by
  apply BitVec.eq_of_getLsbD_eq
  intro i hi
  simp only [wordOfCommand_getLsbD, commandOfWord, BitVec.getLsbD_extractLsb']
  split
  · simp_all
  · split
    · simp only [show i - 4 < 4 by omega, show 4 + (i - 4) = i by omega, decide_true, Bool.true_and]
    · split
      · simp only [show i - 8 < 8 by omega, show 8 + (i - 8) = i by omega, decide_true, Bool.true_and]
      · simp only [show i - 16 < 16 by omega, show 16 + (i - 16) = i by omega, decide_true, Bool.true_and]

@[simp] theorem fieldsOf_rsv (i : Instr) : (fieldsOf i).rsv = 0#4 := by cases i <;> rfl

@[simp] theorem encode_op (i : Instr) : (encode i).extractLsb' 0 4 = (fieldsOf i).op :=
  congrArg Command.op (commandOfWord_wordOfCommand (fieldsOf i))

@[simp] theorem encode_ptr (i : Instr) : (encode i).extractLsb' 8 8 = (fieldsOf i).ptr :=
  congrArg Command.ptr (commandOfWord_wordOfCommand (fieldsOf i))

@[simp] theorem encode_data (i : Instr) : (encode i).extractLsb' 16 16 = (fieldsOf i).data :=
  congrArg Command.data (commandOfWord_wordOfCommand (fieldsOf i))

end Sys2Proof
end

