-- ==== Sys2Proof/Laws/Decoder.lean ====
section
/-! SUPPORT. The decoder's fields and its exact value as numbers. -/

namespace Sys2Proof.Machine

theorem expOf_toNat (w : Word16) : (expOf w).toNat = w.toNat / 4096 := by
  simp only [expOf, BitVec.extractLsb'_toNat, Nat.shiftRight_eq_div_pow]
  omega

theorem mantOf_toNat (w : Word16) : (mantOf w).toNat = w.toNat % 4096 := by
  simp [mantOf, BitVec.extractLsb'_toNat]

theorem centiNat_eq (w : Word16) : centiNat w = w.toNat % 4096 * 2 ^ (w.toNat / 4096) := by
  rw [centiNat, Nat.shiftLeft_eq, expOf_toNat, mantOf_toNat]

/-- The largest value is 4095 × 2^15 (R32). -/
theorem centiNat_le (w : Word16) : centiNat w ≤ 134184960 := by
  have hm := (mantOf w).isLt
  have he := (expOf w).isLt
  have hp : (2 : Nat) ^ (expOf w).toNat ≤ 2 ^ 15 := Nat.pow_le_pow_right (by omega) (by omega)
  rw [centiNat, Nat.shiftLeft_eq]
  calc (mantOf w).toNat * 2 ^ (expOf w).toNat ≤ 4095 * 2 ^ 15 := Nat.mul_le_mul (by omega) hp
    _ = 134184960 := by norm_num

/-- LUX_CENTI's 27 bits hold `centi` without loss (R32, R146). -/
theorem centiOf_toNat (w : Word16) : (centiOf w).toNat = centiNat w := by
  rw [centiOf, BitVec.toNat_ofNat, Nat.mod_eq_of_lt]
  have := centiNat_le w
  omega

end Sys2Proof.Machine
end

