-- ==== Sys2Proof/Laws/State.lean ====
section
/-! SUPPORT. One lemma for each field and each update of State, true by rfl, so that no proof unfolds a record update. -/

namespace Sys2Proof.Machine

@[simp] theorem reset_lastCmd : State.reset.lastCmd = 0#32 := rfl
@[simp] theorem reset_busy : State.reset.busy = false := rfl
@[simp] theorem reset_done : State.reset.done = false := rfl
@[simp] theorem reset_illegal : State.reset.illegal = false := rfl
@[simp] theorem reset_overrun : State.reset.overrun = false := rfl
@[simp] theorem reset_err : State.reset.err = 0#16 := rfl
@[simp] theorem reset_word : State.reset.word = 0#16 := rfl
@[simp] theorem reset_luxCenti : State.reset.luxCenti = 0#27 := rfl
@[simp] theorem reset_luxF32 : State.reset.luxF32 = 0#32 := rfl
@[simp] theorem reset_pollCnt : State.reset.pollCnt = 0#8 := rfl
@[simp] theorem reset_devAddr : State.reset.devAddr = 0#7 := rfl
@[simp] theorem reset_devValid : State.reset.devValid = false := rfl
@[simp] theorem reset_seqState : State.reset.seqState = .idle := rfl
@[simp] theorem reset_seqOp : State.reset.seqOp = 0#4 := rfl
@[simp] theorem reset_seqPtr : State.reset.seqPtr = 0#8 := rfl
@[simp] theorem reset_seqData : State.reset.seqData = 0#16 := rfl
@[simp] theorem reset_seqK : State.reset.seqK = 0#2 := rfl
@[simp] theorem reset_seqPolls : State.reset.seqPolls = 0#8 := rfl
@[simp] theorem reset_seqWord : State.reset.seqWord = 0#16 := rfl
@[simp] theorem reset_answer : State.reset.answer = none := rfl
@[simp] theorem reset_program : State.reset.program = [] := rfl
@[simp] theorem reset_schedule : State.reset.schedule = [] := rfl
@[simp] theorem reset_trace : State.reset.trace = [] := rfl
@[simp] theorem reset_reads : State.reset.reads = [] := rfl

@[simp] theorem emit_lastCmd (e : BusEvent) (s : State) : (emit e s).lastCmd = s.lastCmd := rfl
@[simp] theorem emit_busy (e : BusEvent) (s : State) : (emit e s).busy = s.busy := rfl
@[simp] theorem emit_done (e : BusEvent) (s : State) : (emit e s).done = s.done := rfl
@[simp] theorem emit_illegal (e : BusEvent) (s : State) : (emit e s).illegal = s.illegal := rfl
@[simp] theorem emit_overrun (e : BusEvent) (s : State) : (emit e s).overrun = s.overrun := rfl
@[simp] theorem emit_err (e : BusEvent) (s : State) : (emit e s).err = s.err := rfl
@[simp] theorem emit_word (e : BusEvent) (s : State) : (emit e s).word = s.word := rfl
@[simp] theorem emit_luxCenti (e : BusEvent) (s : State) : (emit e s).luxCenti = s.luxCenti := rfl
@[simp] theorem emit_luxF32 (e : BusEvent) (s : State) : (emit e s).luxF32 = s.luxF32 := rfl
@[simp] theorem emit_pollCnt (e : BusEvent) (s : State) : (emit e s).pollCnt = s.pollCnt := rfl
@[simp] theorem emit_devAddr (e : BusEvent) (s : State) : (emit e s).devAddr = s.devAddr := rfl
@[simp] theorem emit_devValid (e : BusEvent) (s : State) : (emit e s).devValid = s.devValid := rfl
@[simp] theorem emit_seqState (e : BusEvent) (s : State) : (emit e s).seqState = s.seqState := rfl
@[simp] theorem emit_seqOp (e : BusEvent) (s : State) : (emit e s).seqOp = s.seqOp := rfl
@[simp] theorem emit_seqPtr (e : BusEvent) (s : State) : (emit e s).seqPtr = s.seqPtr := rfl
@[simp] theorem emit_seqData (e : BusEvent) (s : State) : (emit e s).seqData = s.seqData := rfl
@[simp] theorem emit_seqK (e : BusEvent) (s : State) : (emit e s).seqK = s.seqK := rfl
@[simp] theorem emit_seqPolls (e : BusEvent) (s : State) : (emit e s).seqPolls = s.seqPolls := rfl
@[simp] theorem emit_seqWord (e : BusEvent) (s : State) : (emit e s).seqWord = s.seqWord := rfl
@[simp] theorem emit_answer (e : BusEvent) (s : State) : (emit e s).answer = s.answer := rfl
@[simp] theorem emit_program (e : BusEvent) (s : State) : (emit e s).program = s.program := rfl
@[simp] theorem emit_schedule (e : BusEvent) (s : State) : (emit e s).schedule = s.schedule := rfl
@[simp] theorem emit_trace (e : BusEvent) (s : State) : (emit e s).trace = s.trace ++ [e] := rfl
@[simp] theorem emit_reads (e : BusEvent) (s : State) : (emit e s).reads = s.reads := rfl

@[simp] theorem takeAnswer_lastCmd (s : State) : (takeAnswer s).lastCmd = s.lastCmd := rfl
@[simp] theorem takeAnswer_busy (s : State) : (takeAnswer s).busy = s.busy := rfl
@[simp] theorem takeAnswer_done (s : State) : (takeAnswer s).done = s.done := rfl
@[simp] theorem takeAnswer_illegal (s : State) : (takeAnswer s).illegal = s.illegal := rfl
@[simp] theorem takeAnswer_overrun (s : State) : (takeAnswer s).overrun = s.overrun := rfl
@[simp] theorem takeAnswer_err (s : State) : (takeAnswer s).err = s.err := rfl
@[simp] theorem takeAnswer_word (s : State) : (takeAnswer s).word = s.word := rfl
@[simp] theorem takeAnswer_luxCenti (s : State) : (takeAnswer s).luxCenti = s.luxCenti := rfl
@[simp] theorem takeAnswer_luxF32 (s : State) : (takeAnswer s).luxF32 = s.luxF32 := rfl
@[simp] theorem takeAnswer_pollCnt (s : State) : (takeAnswer s).pollCnt = s.pollCnt := rfl
@[simp] theorem takeAnswer_devAddr (s : State) : (takeAnswer s).devAddr = s.devAddr := rfl
@[simp] theorem takeAnswer_devValid (s : State) : (takeAnswer s).devValid = s.devValid := rfl
@[simp] theorem takeAnswer_seqState (s : State) : (takeAnswer s).seqState = s.seqState := rfl
@[simp] theorem takeAnswer_seqOp (s : State) : (takeAnswer s).seqOp = s.seqOp := rfl
@[simp] theorem takeAnswer_seqPtr (s : State) : (takeAnswer s).seqPtr = s.seqPtr := rfl
@[simp] theorem takeAnswer_seqData (s : State) : (takeAnswer s).seqData = s.seqData := rfl
@[simp] theorem takeAnswer_seqK (s : State) : (takeAnswer s).seqK = s.seqK := rfl
@[simp] theorem takeAnswer_seqPolls (s : State) : (takeAnswer s).seqPolls = s.seqPolls := rfl
@[simp] theorem takeAnswer_seqWord (s : State) : (takeAnswer s).seqWord = s.seqWord := rfl
@[simp] theorem takeAnswer_answer (s : State) : (takeAnswer s).answer = none := rfl
@[simp] theorem takeAnswer_program (s : State) : (takeAnswer s).program = s.program := rfl
@[simp] theorem takeAnswer_schedule (s : State) : (takeAnswer s).schedule = s.schedule := rfl
@[simp] theorem takeAnswer_trace (s : State) : (takeAnswer s).trace = s.trace := rfl
@[simp] theorem takeAnswer_reads (s : State) : (takeAnswer s).reads = s.reads := rfl

@[simp] theorem giveAnswer_lastCmd (a : Answer) (s : State) : (giveAnswer a s).lastCmd = s.lastCmd := rfl
@[simp] theorem giveAnswer_busy (a : Answer) (s : State) : (giveAnswer a s).busy = s.busy := rfl
@[simp] theorem giveAnswer_done (a : Answer) (s : State) : (giveAnswer a s).done = s.done := rfl
@[simp] theorem giveAnswer_illegal (a : Answer) (s : State) : (giveAnswer a s).illegal = s.illegal := rfl
@[simp] theorem giveAnswer_overrun (a : Answer) (s : State) : (giveAnswer a s).overrun = s.overrun := rfl
@[simp] theorem giveAnswer_err (a : Answer) (s : State) : (giveAnswer a s).err = s.err := rfl
@[simp] theorem giveAnswer_word (a : Answer) (s : State) : (giveAnswer a s).word = s.word := rfl
@[simp] theorem giveAnswer_luxCenti (a : Answer) (s : State) : (giveAnswer a s).luxCenti = s.luxCenti := rfl
@[simp] theorem giveAnswer_luxF32 (a : Answer) (s : State) : (giveAnswer a s).luxF32 = s.luxF32 := rfl
@[simp] theorem giveAnswer_pollCnt (a : Answer) (s : State) : (giveAnswer a s).pollCnt = s.pollCnt := rfl
@[simp] theorem giveAnswer_devAddr (a : Answer) (s : State) : (giveAnswer a s).devAddr = s.devAddr := rfl
@[simp] theorem giveAnswer_devValid (a : Answer) (s : State) : (giveAnswer a s).devValid = s.devValid := rfl
@[simp] theorem giveAnswer_seqState (a : Answer) (s : State) : (giveAnswer a s).seqState = s.seqState := rfl
@[simp] theorem giveAnswer_seqOp (a : Answer) (s : State) : (giveAnswer a s).seqOp = s.seqOp := rfl
@[simp] theorem giveAnswer_seqPtr (a : Answer) (s : State) : (giveAnswer a s).seqPtr = s.seqPtr := rfl
@[simp] theorem giveAnswer_seqData (a : Answer) (s : State) : (giveAnswer a s).seqData = s.seqData := rfl
@[simp] theorem giveAnswer_seqK (a : Answer) (s : State) : (giveAnswer a s).seqK = s.seqK := rfl
@[simp] theorem giveAnswer_seqPolls (a : Answer) (s : State) : (giveAnswer a s).seqPolls = s.seqPolls := rfl
@[simp] theorem giveAnswer_seqWord (a : Answer) (s : State) : (giveAnswer a s).seqWord = s.seqWord := rfl
@[simp] theorem giveAnswer_answer (a : Answer) (s : State) : (giveAnswer a s).answer = some a := rfl
@[simp] theorem giveAnswer_program (a : Answer) (s : State) : (giveAnswer a s).program = s.program := rfl
@[simp] theorem giveAnswer_schedule (a : Answer) (s : State) : (giveAnswer a s).schedule = s.schedule := rfl
@[simp] theorem giveAnswer_trace (a : Answer) (s : State) : (giveAnswer a s).trace = s.trace := rfl
@[simp] theorem giveAnswer_reads (a : Answer) (s : State) : (giveAnswer a s).reads = s.reads := rfl

@[simp] theorem goTo_lastCmd (c : Control) (s : State) : (goTo c s).lastCmd = s.lastCmd := rfl
@[simp] theorem goTo_busy (c : Control) (s : State) : (goTo c s).busy = s.busy := rfl
@[simp] theorem goTo_done (c : Control) (s : State) : (goTo c s).done = s.done := rfl
@[simp] theorem goTo_illegal (c : Control) (s : State) : (goTo c s).illegal = s.illegal := rfl
@[simp] theorem goTo_overrun (c : Control) (s : State) : (goTo c s).overrun = s.overrun := rfl
@[simp] theorem goTo_err (c : Control) (s : State) : (goTo c s).err = s.err := rfl
@[simp] theorem goTo_word (c : Control) (s : State) : (goTo c s).word = s.word := rfl
@[simp] theorem goTo_luxCenti (c : Control) (s : State) : (goTo c s).luxCenti = s.luxCenti := rfl
@[simp] theorem goTo_luxF32 (c : Control) (s : State) : (goTo c s).luxF32 = s.luxF32 := rfl
@[simp] theorem goTo_pollCnt (c : Control) (s : State) : (goTo c s).pollCnt = s.pollCnt := rfl
@[simp] theorem goTo_devAddr (c : Control) (s : State) : (goTo c s).devAddr = s.devAddr := rfl
@[simp] theorem goTo_devValid (c : Control) (s : State) : (goTo c s).devValid = s.devValid := rfl
@[simp] theorem goTo_seqState (c : Control) (s : State) : (goTo c s).seqState = c := rfl
@[simp] theorem goTo_seqOp (c : Control) (s : State) : (goTo c s).seqOp = s.seqOp := rfl
@[simp] theorem goTo_seqPtr (c : Control) (s : State) : (goTo c s).seqPtr = s.seqPtr := rfl
@[simp] theorem goTo_seqData (c : Control) (s : State) : (goTo c s).seqData = s.seqData := rfl
@[simp] theorem goTo_seqK (c : Control) (s : State) : (goTo c s).seqK = s.seqK := rfl
@[simp] theorem goTo_seqPolls (c : Control) (s : State) : (goTo c s).seqPolls = s.seqPolls := rfl
@[simp] theorem goTo_seqWord (c : Control) (s : State) : (goTo c s).seqWord = s.seqWord := rfl
@[simp] theorem goTo_answer (c : Control) (s : State) : (goTo c s).answer = s.answer := rfl
@[simp] theorem goTo_program (c : Control) (s : State) : (goTo c s).program = s.program := rfl
@[simp] theorem goTo_schedule (c : Control) (s : State) : (goTo c s).schedule = s.schedule := rfl
@[simp] theorem goTo_trace (c : Control) (s : State) : (goTo c s).trace = s.trace := rfl
@[simp] theorem goTo_reads (c : Control) (s : State) : (goTo c s).reads = s.reads := rfl

@[simp] theorem setK_lastCmd (k : BitVec 2) (s : State) : (setK k s).lastCmd = s.lastCmd := rfl
@[simp] theorem setK_busy (k : BitVec 2) (s : State) : (setK k s).busy = s.busy := rfl
@[simp] theorem setK_done (k : BitVec 2) (s : State) : (setK k s).done = s.done := rfl
@[simp] theorem setK_illegal (k : BitVec 2) (s : State) : (setK k s).illegal = s.illegal := rfl
@[simp] theorem setK_overrun (k : BitVec 2) (s : State) : (setK k s).overrun = s.overrun := rfl
@[simp] theorem setK_err (k : BitVec 2) (s : State) : (setK k s).err = s.err := rfl
@[simp] theorem setK_word (k : BitVec 2) (s : State) : (setK k s).word = s.word := rfl
@[simp] theorem setK_luxCenti (k : BitVec 2) (s : State) : (setK k s).luxCenti = s.luxCenti := rfl
@[simp] theorem setK_luxF32 (k : BitVec 2) (s : State) : (setK k s).luxF32 = s.luxF32 := rfl
@[simp] theorem setK_pollCnt (k : BitVec 2) (s : State) : (setK k s).pollCnt = s.pollCnt := rfl
@[simp] theorem setK_devAddr (k : BitVec 2) (s : State) : (setK k s).devAddr = s.devAddr := rfl
@[simp] theorem setK_devValid (k : BitVec 2) (s : State) : (setK k s).devValid = s.devValid := rfl
@[simp] theorem setK_seqState (k : BitVec 2) (s : State) : (setK k s).seqState = s.seqState := rfl
@[simp] theorem setK_seqOp (k : BitVec 2) (s : State) : (setK k s).seqOp = s.seqOp := rfl
@[simp] theorem setK_seqPtr (k : BitVec 2) (s : State) : (setK k s).seqPtr = s.seqPtr := rfl
@[simp] theorem setK_seqData (k : BitVec 2) (s : State) : (setK k s).seqData = s.seqData := rfl
@[simp] theorem setK_seqK (k : BitVec 2) (s : State) : (setK k s).seqK = k := rfl
@[simp] theorem setK_seqPolls (k : BitVec 2) (s : State) : (setK k s).seqPolls = s.seqPolls := rfl
@[simp] theorem setK_seqWord (k : BitVec 2) (s : State) : (setK k s).seqWord = s.seqWord := rfl
@[simp] theorem setK_answer (k : BitVec 2) (s : State) : (setK k s).answer = s.answer := rfl
@[simp] theorem setK_program (k : BitVec 2) (s : State) : (setK k s).program = s.program := rfl
@[simp] theorem setK_schedule (k : BitVec 2) (s : State) : (setK k s).schedule = s.schedule := rfl
@[simp] theorem setK_trace (k : BitVec 2) (s : State) : (setK k s).trace = s.trace := rfl
@[simp] theorem setK_reads (k : BitVec 2) (s : State) : (setK k s).reads = s.reads := rfl

@[simp] theorem setPolls_lastCmd (n : Byte) (s : State) : (setPolls n s).lastCmd = s.lastCmd := rfl
@[simp] theorem setPolls_busy (n : Byte) (s : State) : (setPolls n s).busy = s.busy := rfl
@[simp] theorem setPolls_done (n : Byte) (s : State) : (setPolls n s).done = s.done := rfl
@[simp] theorem setPolls_illegal (n : Byte) (s : State) : (setPolls n s).illegal = s.illegal := rfl
@[simp] theorem setPolls_overrun (n : Byte) (s : State) : (setPolls n s).overrun = s.overrun := rfl
@[simp] theorem setPolls_err (n : Byte) (s : State) : (setPolls n s).err = s.err := rfl
@[simp] theorem setPolls_word (n : Byte) (s : State) : (setPolls n s).word = s.word := rfl
@[simp] theorem setPolls_luxCenti (n : Byte) (s : State) : (setPolls n s).luxCenti = s.luxCenti := rfl
@[simp] theorem setPolls_luxF32 (n : Byte) (s : State) : (setPolls n s).luxF32 = s.luxF32 := rfl
@[simp] theorem setPolls_pollCnt (n : Byte) (s : State) : (setPolls n s).pollCnt = s.pollCnt := rfl
@[simp] theorem setPolls_devAddr (n : Byte) (s : State) : (setPolls n s).devAddr = s.devAddr := rfl
@[simp] theorem setPolls_devValid (n : Byte) (s : State) : (setPolls n s).devValid = s.devValid := rfl
@[simp] theorem setPolls_seqState (n : Byte) (s : State) : (setPolls n s).seqState = s.seqState := rfl
@[simp] theorem setPolls_seqOp (n : Byte) (s : State) : (setPolls n s).seqOp = s.seqOp := rfl
@[simp] theorem setPolls_seqPtr (n : Byte) (s : State) : (setPolls n s).seqPtr = s.seqPtr := rfl
@[simp] theorem setPolls_seqData (n : Byte) (s : State) : (setPolls n s).seqData = s.seqData := rfl
@[simp] theorem setPolls_seqK (n : Byte) (s : State) : (setPolls n s).seqK = s.seqK := rfl
@[simp] theorem setPolls_seqPolls (n : Byte) (s : State) : (setPolls n s).seqPolls = n := rfl
@[simp] theorem setPolls_seqWord (n : Byte) (s : State) : (setPolls n s).seqWord = s.seqWord := rfl
@[simp] theorem setPolls_answer (n : Byte) (s : State) : (setPolls n s).answer = s.answer := rfl
@[simp] theorem setPolls_program (n : Byte) (s : State) : (setPolls n s).program = s.program := rfl
@[simp] theorem setPolls_schedule (n : Byte) (s : State) : (setPolls n s).schedule = s.schedule := rfl
@[simp] theorem setPolls_trace (n : Byte) (s : State) : (setPolls n s).trace = s.trace := rfl
@[simp] theorem setPolls_reads (n : Byte) (s : State) : (setPolls n s).reads = s.reads := rfl

@[simp] theorem setSeqWord_lastCmd (w : Word16) (s : State) : (setSeqWord w s).lastCmd = s.lastCmd := rfl
@[simp] theorem setSeqWord_busy (w : Word16) (s : State) : (setSeqWord w s).busy = s.busy := rfl
@[simp] theorem setSeqWord_done (w : Word16) (s : State) : (setSeqWord w s).done = s.done := rfl
@[simp] theorem setSeqWord_illegal (w : Word16) (s : State) : (setSeqWord w s).illegal = s.illegal := rfl
@[simp] theorem setSeqWord_overrun (w : Word16) (s : State) : (setSeqWord w s).overrun = s.overrun := rfl
@[simp] theorem setSeqWord_err (w : Word16) (s : State) : (setSeqWord w s).err = s.err := rfl
@[simp] theorem setSeqWord_word (w : Word16) (s : State) : (setSeqWord w s).word = s.word := rfl
@[simp] theorem setSeqWord_luxCenti (w : Word16) (s : State) : (setSeqWord w s).luxCenti = s.luxCenti := rfl
@[simp] theorem setSeqWord_luxF32 (w : Word16) (s : State) : (setSeqWord w s).luxF32 = s.luxF32 := rfl
@[simp] theorem setSeqWord_pollCnt (w : Word16) (s : State) : (setSeqWord w s).pollCnt = s.pollCnt := rfl
@[simp] theorem setSeqWord_devAddr (w : Word16) (s : State) : (setSeqWord w s).devAddr = s.devAddr := rfl
@[simp] theorem setSeqWord_devValid (w : Word16) (s : State) : (setSeqWord w s).devValid = s.devValid := rfl
@[simp] theorem setSeqWord_seqState (w : Word16) (s : State) : (setSeqWord w s).seqState = s.seqState := rfl
@[simp] theorem setSeqWord_seqOp (w : Word16) (s : State) : (setSeqWord w s).seqOp = s.seqOp := rfl
@[simp] theorem setSeqWord_seqPtr (w : Word16) (s : State) : (setSeqWord w s).seqPtr = s.seqPtr := rfl
@[simp] theorem setSeqWord_seqData (w : Word16) (s : State) : (setSeqWord w s).seqData = s.seqData := rfl
@[simp] theorem setSeqWord_seqK (w : Word16) (s : State) : (setSeqWord w s).seqK = s.seqK := rfl
@[simp] theorem setSeqWord_seqPolls (w : Word16) (s : State) : (setSeqWord w s).seqPolls = s.seqPolls := rfl
@[simp] theorem setSeqWord_seqWord (w : Word16) (s : State) : (setSeqWord w s).seqWord = w := rfl
@[simp] theorem setSeqWord_answer (w : Word16) (s : State) : (setSeqWord w s).answer = s.answer := rfl
@[simp] theorem setSeqWord_program (w : Word16) (s : State) : (setSeqWord w s).program = s.program := rfl
@[simp] theorem setSeqWord_schedule (w : Word16) (s : State) : (setSeqWord w s).schedule = s.schedule := rfl
@[simp] theorem setSeqWord_trace (w : Word16) (s : State) : (setSeqWord w s).trace = s.trace := rfl
@[simp] theorem setSeqWord_reads (w : Word16) (s : State) : (setSeqWord w s).reads = s.reads := rfl

@[simp] theorem complete_lastCmd (w e : Word16) (c : BitVec 27) (f : Word32) (n : Byte) (s : State) : (complete w e c f n s).lastCmd = s.lastCmd := rfl
@[simp] theorem complete_busy (w e : Word16) (c : BitVec 27) (f : Word32) (n : Byte) (s : State) : (complete w e c f n s).busy = false := rfl
@[simp] theorem complete_done (w e : Word16) (c : BitVec 27) (f : Word32) (n : Byte) (s : State) : (complete w e c f n s).done = true := rfl
@[simp] theorem complete_illegal (w e : Word16) (c : BitVec 27) (f : Word32) (n : Byte) (s : State) : (complete w e c f n s).illegal = s.illegal := rfl
@[simp] theorem complete_overrun (w e : Word16) (c : BitVec 27) (f : Word32) (n : Byte) (s : State) : (complete w e c f n s).overrun = s.overrun := rfl
@[simp] theorem complete_err (w e : Word16) (c : BitVec 27) (f : Word32) (n : Byte) (s : State) : (complete w e c f n s).err = e := rfl
@[simp] theorem complete_word (w e : Word16) (c : BitVec 27) (f : Word32) (n : Byte) (s : State) : (complete w e c f n s).word = w := rfl
@[simp] theorem complete_luxCenti (w e : Word16) (c : BitVec 27) (f : Word32) (n : Byte) (s : State) : (complete w e c f n s).luxCenti = c := rfl
@[simp] theorem complete_luxF32 (w e : Word16) (c : BitVec 27) (f : Word32) (n : Byte) (s : State) : (complete w e c f n s).luxF32 = f := rfl
@[simp] theorem complete_pollCnt (w e : Word16) (c : BitVec 27) (f : Word32) (n : Byte) (s : State) : (complete w e c f n s).pollCnt = n := rfl
@[simp] theorem complete_devAddr (w e : Word16) (c : BitVec 27) (f : Word32) (n : Byte) (s : State) : (complete w e c f n s).devAddr = s.devAddr := rfl
@[simp] theorem complete_devValid (w e : Word16) (c : BitVec 27) (f : Word32) (n : Byte) (s : State) : (complete w e c f n s).devValid = s.devValid := rfl
@[simp] theorem complete_seqState (w e : Word16) (c : BitVec 27) (f : Word32) (n : Byte) (s : State) : (complete w e c f n s).seqState = .idle := rfl
@[simp] theorem complete_seqOp (w e : Word16) (c : BitVec 27) (f : Word32) (n : Byte) (s : State) : (complete w e c f n s).seqOp = s.seqOp := rfl
@[simp] theorem complete_seqPtr (w e : Word16) (c : BitVec 27) (f : Word32) (n : Byte) (s : State) : (complete w e c f n s).seqPtr = s.seqPtr := rfl
@[simp] theorem complete_seqData (w e : Word16) (c : BitVec 27) (f : Word32) (n : Byte) (s : State) : (complete w e c f n s).seqData = s.seqData := rfl
@[simp] theorem complete_seqK (w e : Word16) (c : BitVec 27) (f : Word32) (n : Byte) (s : State) : (complete w e c f n s).seqK = s.seqK := rfl
@[simp] theorem complete_seqPolls (w e : Word16) (c : BitVec 27) (f : Word32) (n : Byte) (s : State) : (complete w e c f n s).seqPolls = s.seqPolls := rfl
@[simp] theorem complete_seqWord (w e : Word16) (c : BitVec 27) (f : Word32) (n : Byte) (s : State) : (complete w e c f n s).seqWord = s.seqWord := rfl
@[simp] theorem complete_answer (w e : Word16) (c : BitVec 27) (f : Word32) (n : Byte) (s : State) : (complete w e c f n s).answer = s.answer := rfl
@[simp] theorem complete_program (w e : Word16) (c : BitVec 27) (f : Word32) (n : Byte) (s : State) : (complete w e c f n s).program = s.program := rfl
@[simp] theorem complete_schedule (w e : Word16) (c : BitVec 27) (f : Word32) (n : Byte) (s : State) : (complete w e c f n s).schedule = s.schedule := rfl
@[simp] theorem complete_trace (w e : Word16) (c : BitVec 27) (f : Word32) (n : Byte) (s : State) : (complete w e c f n s).trace = s.trace := rfl
@[simp] theorem complete_reads (w e : Word16) (c : BitVec 27) (f : Word32) (n : Byte) (s : State) : (complete w e c f n s).reads = s.reads := rfl

@[simp] theorem raiseIllegal_lastCmd (s : State) : (raiseIllegal s).lastCmd = s.lastCmd := rfl
@[simp] theorem raiseIllegal_busy (s : State) : (raiseIllegal s).busy = s.busy := rfl
@[simp] theorem raiseIllegal_done (s : State) : (raiseIllegal s).done = s.done := rfl
@[simp] theorem raiseIllegal_illegal (s : State) : (raiseIllegal s).illegal = true := rfl
@[simp] theorem raiseIllegal_overrun (s : State) : (raiseIllegal s).overrun = s.overrun := rfl
@[simp] theorem raiseIllegal_err (s : State) : (raiseIllegal s).err = s.err := rfl
@[simp] theorem raiseIllegal_word (s : State) : (raiseIllegal s).word = s.word := rfl
@[simp] theorem raiseIllegal_luxCenti (s : State) : (raiseIllegal s).luxCenti = s.luxCenti := rfl
@[simp] theorem raiseIllegal_luxF32 (s : State) : (raiseIllegal s).luxF32 = s.luxF32 := rfl
@[simp] theorem raiseIllegal_pollCnt (s : State) : (raiseIllegal s).pollCnt = s.pollCnt := rfl
@[simp] theorem raiseIllegal_devAddr (s : State) : (raiseIllegal s).devAddr = s.devAddr := rfl
@[simp] theorem raiseIllegal_devValid (s : State) : (raiseIllegal s).devValid = s.devValid := rfl
@[simp] theorem raiseIllegal_seqState (s : State) : (raiseIllegal s).seqState = s.seqState := rfl
@[simp] theorem raiseIllegal_seqOp (s : State) : (raiseIllegal s).seqOp = s.seqOp := rfl
@[simp] theorem raiseIllegal_seqPtr (s : State) : (raiseIllegal s).seqPtr = s.seqPtr := rfl
@[simp] theorem raiseIllegal_seqData (s : State) : (raiseIllegal s).seqData = s.seqData := rfl
@[simp] theorem raiseIllegal_seqK (s : State) : (raiseIllegal s).seqK = s.seqK := rfl
@[simp] theorem raiseIllegal_seqPolls (s : State) : (raiseIllegal s).seqPolls = s.seqPolls := rfl
@[simp] theorem raiseIllegal_seqWord (s : State) : (raiseIllegal s).seqWord = s.seqWord := rfl
@[simp] theorem raiseIllegal_answer (s : State) : (raiseIllegal s).answer = s.answer := rfl
@[simp] theorem raiseIllegal_program (s : State) : (raiseIllegal s).program = s.program := rfl
@[simp] theorem raiseIllegal_schedule (s : State) : (raiseIllegal s).schedule = s.schedule := rfl
@[simp] theorem raiseIllegal_trace (s : State) : (raiseIllegal s).trace = s.trace := rfl
@[simp] theorem raiseIllegal_reads (s : State) : (raiseIllegal s).reads = s.reads := rfl

@[simp] theorem raiseOverrun_lastCmd (s : State) : (raiseOverrun s).lastCmd = s.lastCmd := rfl
@[simp] theorem raiseOverrun_busy (s : State) : (raiseOverrun s).busy = s.busy := rfl
@[simp] theorem raiseOverrun_done (s : State) : (raiseOverrun s).done = s.done := rfl
@[simp] theorem raiseOverrun_illegal (s : State) : (raiseOverrun s).illegal = s.illegal := rfl
@[simp] theorem raiseOverrun_overrun (s : State) : (raiseOverrun s).overrun = true := rfl
@[simp] theorem raiseOverrun_err (s : State) : (raiseOverrun s).err = s.err := rfl
@[simp] theorem raiseOverrun_word (s : State) : (raiseOverrun s).word = s.word := rfl
@[simp] theorem raiseOverrun_luxCenti (s : State) : (raiseOverrun s).luxCenti = s.luxCenti := rfl
@[simp] theorem raiseOverrun_luxF32 (s : State) : (raiseOverrun s).luxF32 = s.luxF32 := rfl
@[simp] theorem raiseOverrun_pollCnt (s : State) : (raiseOverrun s).pollCnt = s.pollCnt := rfl
@[simp] theorem raiseOverrun_devAddr (s : State) : (raiseOverrun s).devAddr = s.devAddr := rfl
@[simp] theorem raiseOverrun_devValid (s : State) : (raiseOverrun s).devValid = s.devValid := rfl
@[simp] theorem raiseOverrun_seqState (s : State) : (raiseOverrun s).seqState = s.seqState := rfl
@[simp] theorem raiseOverrun_seqOp (s : State) : (raiseOverrun s).seqOp = s.seqOp := rfl
@[simp] theorem raiseOverrun_seqPtr (s : State) : (raiseOverrun s).seqPtr = s.seqPtr := rfl
@[simp] theorem raiseOverrun_seqData (s : State) : (raiseOverrun s).seqData = s.seqData := rfl
@[simp] theorem raiseOverrun_seqK (s : State) : (raiseOverrun s).seqK = s.seqK := rfl
@[simp] theorem raiseOverrun_seqPolls (s : State) : (raiseOverrun s).seqPolls = s.seqPolls := rfl
@[simp] theorem raiseOverrun_seqWord (s : State) : (raiseOverrun s).seqWord = s.seqWord := rfl
@[simp] theorem raiseOverrun_answer (s : State) : (raiseOverrun s).answer = s.answer := rfl
@[simp] theorem raiseOverrun_program (s : State) : (raiseOverrun s).program = s.program := rfl
@[simp] theorem raiseOverrun_schedule (s : State) : (raiseOverrun s).schedule = s.schedule := rfl
@[simp] theorem raiseOverrun_trace (s : State) : (raiseOverrun s).trace = s.trace := rfl
@[simp] theorem raiseOverrun_reads (s : State) : (raiseOverrun s).reads = s.reads := rfl

@[simp] theorem accept_lastCmd (v : Word32) (s : State) : (accept v s).lastCmd = v := rfl
@[simp] theorem accept_busy (v : Word32) (s : State) : (accept v s).busy = true := rfl
@[simp] theorem accept_done (v : Word32) (s : State) : (accept v s).done = false := rfl
@[simp] theorem accept_illegal (v : Word32) (s : State) : (accept v s).illegal = s.illegal := rfl
@[simp] theorem accept_overrun (v : Word32) (s : State) : (accept v s).overrun = s.overrun := rfl
@[simp] theorem accept_err (v : Word32) (s : State) : (accept v s).err = s.err := rfl
@[simp] theorem accept_word (v : Word32) (s : State) : (accept v s).word = s.word := rfl
@[simp] theorem accept_luxCenti (v : Word32) (s : State) : (accept v s).luxCenti = s.luxCenti := rfl
@[simp] theorem accept_luxF32 (v : Word32) (s : State) : (accept v s).luxF32 = s.luxF32 := rfl
@[simp] theorem accept_pollCnt (v : Word32) (s : State) : (accept v s).pollCnt = s.pollCnt := rfl
@[simp] theorem accept_devAddr (v : Word32) (s : State) : (accept v s).devAddr = s.devAddr := rfl
@[simp] theorem accept_devValid (v : Word32) (s : State) : (accept v s).devValid = s.devValid := rfl
@[simp] theorem accept_seqState (v : Word32) (s : State) : (accept v s).seqState = entryState (v.extractLsb' 0 4) := rfl
@[simp] theorem accept_seqOp (v : Word32) (s : State) : (accept v s).seqOp = v.extractLsb' 0 4 := rfl
@[simp] theorem accept_seqPtr (v : Word32) (s : State) : (accept v s).seqPtr = v.extractLsb' 8 8 := rfl
@[simp] theorem accept_seqData (v : Word32) (s : State) : (accept v s).seqData = v.extractLsb' 16 16 := rfl
@[simp] theorem accept_seqK (v : Word32) (s : State) : (accept v s).seqK = s.seqK := rfl
@[simp] theorem accept_seqPolls (v : Word32) (s : State) : (accept v s).seqPolls = s.seqPolls := rfl
@[simp] theorem accept_seqWord (v : Word32) (s : State) : (accept v s).seqWord = s.seqWord := rfl
@[simp] theorem accept_answer (v : Word32) (s : State) : (accept v s).answer = s.answer := rfl
@[simp] theorem accept_program (v : Word32) (s : State) : (accept v s).program = s.program := rfl
@[simp] theorem accept_schedule (v : Word32) (s : State) : (accept v s).schedule = s.schedule := rfl
@[simp] theorem accept_trace (v : Word32) (s : State) : (accept v s).trace = s.trace := rfl
@[simp] theorem accept_reads (v : Word32) (s : State) : (accept v s).reads = s.reads := rfl

@[simp] theorem writeStatus_lastCmd (v : Word32) (s : State) : (writeStatus v s).lastCmd = s.lastCmd := rfl
@[simp] theorem writeStatus_busy (v : Word32) (s : State) : (writeStatus v s).busy = s.busy := rfl
@[simp] theorem writeStatus_done (v : Word32) (s : State) : (writeStatus v s).done = if v.getLsbD 1 then false else s.done := rfl
@[simp] theorem writeStatus_illegal (v : Word32) (s : State) : (writeStatus v s).illegal = if v.getLsbD 2 then false else s.illegal := rfl
@[simp] theorem writeStatus_overrun (v : Word32) (s : State) : (writeStatus v s).overrun = if v.getLsbD 3 then false else s.overrun := rfl
@[simp] theorem writeStatus_err (v : Word32) (s : State) : (writeStatus v s).err = s.err := rfl
@[simp] theorem writeStatus_word (v : Word32) (s : State) : (writeStatus v s).word = s.word := rfl
@[simp] theorem writeStatus_luxCenti (v : Word32) (s : State) : (writeStatus v s).luxCenti = s.luxCenti := rfl
@[simp] theorem writeStatus_luxF32 (v : Word32) (s : State) : (writeStatus v s).luxF32 = s.luxF32 := rfl
@[simp] theorem writeStatus_pollCnt (v : Word32) (s : State) : (writeStatus v s).pollCnt = s.pollCnt := rfl
@[simp] theorem writeStatus_devAddr (v : Word32) (s : State) : (writeStatus v s).devAddr = s.devAddr := rfl
@[simp] theorem writeStatus_devValid (v : Word32) (s : State) : (writeStatus v s).devValid = s.devValid := rfl
@[simp] theorem writeStatus_seqState (v : Word32) (s : State) : (writeStatus v s).seqState = s.seqState := rfl
@[simp] theorem writeStatus_seqOp (v : Word32) (s : State) : (writeStatus v s).seqOp = s.seqOp := rfl
@[simp] theorem writeStatus_seqPtr (v : Word32) (s : State) : (writeStatus v s).seqPtr = s.seqPtr := rfl
@[simp] theorem writeStatus_seqData (v : Word32) (s : State) : (writeStatus v s).seqData = s.seqData := rfl
@[simp] theorem writeStatus_seqK (v : Word32) (s : State) : (writeStatus v s).seqK = s.seqK := rfl
@[simp] theorem writeStatus_seqPolls (v : Word32) (s : State) : (writeStatus v s).seqPolls = s.seqPolls := rfl
@[simp] theorem writeStatus_seqWord (v : Word32) (s : State) : (writeStatus v s).seqWord = s.seqWord := rfl
@[simp] theorem writeStatus_answer (v : Word32) (s : State) : (writeStatus v s).answer = s.answer := rfl
@[simp] theorem writeStatus_program (v : Word32) (s : State) : (writeStatus v s).program = s.program := rfl
@[simp] theorem writeStatus_schedule (v : Word32) (s : State) : (writeStatus v s).schedule = s.schedule := rfl
@[simp] theorem writeStatus_trace (v : Word32) (s : State) : (writeStatus v s).trace = s.trace := rfl
@[simp] theorem writeStatus_reads (v : Word32) (s : State) : (writeStatus v s).reads = s.reads := rfl

@[simp] theorem setDevAddr_lastCmd (v : Word32) (s : State) : (setDevAddr v s).lastCmd = s.lastCmd := rfl
@[simp] theorem setDevAddr_busy (v : Word32) (s : State) : (setDevAddr v s).busy = s.busy := rfl
@[simp] theorem setDevAddr_done (v : Word32) (s : State) : (setDevAddr v s).done = s.done := rfl
@[simp] theorem setDevAddr_illegal (v : Word32) (s : State) : (setDevAddr v s).illegal = s.illegal := rfl
@[simp] theorem setDevAddr_overrun (v : Word32) (s : State) : (setDevAddr v s).overrun = s.overrun := rfl
@[simp] theorem setDevAddr_err (v : Word32) (s : State) : (setDevAddr v s).err = s.err := rfl
@[simp] theorem setDevAddr_word (v : Word32) (s : State) : (setDevAddr v s).word = s.word := rfl
@[simp] theorem setDevAddr_luxCenti (v : Word32) (s : State) : (setDevAddr v s).luxCenti = s.luxCenti := rfl
@[simp] theorem setDevAddr_luxF32 (v : Word32) (s : State) : (setDevAddr v s).luxF32 = s.luxF32 := rfl
@[simp] theorem setDevAddr_pollCnt (v : Word32) (s : State) : (setDevAddr v s).pollCnt = s.pollCnt := rfl
@[simp] theorem setDevAddr_devAddr (v : Word32) (s : State) : (setDevAddr v s).devAddr = v.extractLsb' 0 7 := rfl
@[simp] theorem setDevAddr_devValid (v : Word32) (s : State) : (setDevAddr v s).devValid = true := rfl
@[simp] theorem setDevAddr_seqState (v : Word32) (s : State) : (setDevAddr v s).seqState = s.seqState := rfl
@[simp] theorem setDevAddr_seqOp (v : Word32) (s : State) : (setDevAddr v s).seqOp = s.seqOp := rfl
@[simp] theorem setDevAddr_seqPtr (v : Word32) (s : State) : (setDevAddr v s).seqPtr = s.seqPtr := rfl
@[simp] theorem setDevAddr_seqData (v : Word32) (s : State) : (setDevAddr v s).seqData = s.seqData := rfl
@[simp] theorem setDevAddr_seqK (v : Word32) (s : State) : (setDevAddr v s).seqK = s.seqK := rfl
@[simp] theorem setDevAddr_seqPolls (v : Word32) (s : State) : (setDevAddr v s).seqPolls = s.seqPolls := rfl
@[simp] theorem setDevAddr_seqWord (v : Word32) (s : State) : (setDevAddr v s).seqWord = s.seqWord := rfl
@[simp] theorem setDevAddr_answer (v : Word32) (s : State) : (setDevAddr v s).answer = s.answer := rfl
@[simp] theorem setDevAddr_program (v : Word32) (s : State) : (setDevAddr v s).program = s.program := rfl
@[simp] theorem setDevAddr_schedule (v : Word32) (s : State) : (setDevAddr v s).schedule = s.schedule := rfl
@[simp] theorem setDevAddr_trace (v : Word32) (s : State) : (setDevAddr v s).trace = s.trace := rfl
@[simp] theorem setDevAddr_reads (v : Word32) (s : State) : (setDevAddr v s).reads = s.reads := rfl

@[simp] theorem resetBlock_lastCmd (s : State) : (resetBlock s).lastCmd = State.reset.lastCmd := rfl
@[simp] theorem resetBlock_busy (s : State) : (resetBlock s).busy = State.reset.busy := rfl
@[simp] theorem resetBlock_done (s : State) : (resetBlock s).done = State.reset.done := rfl
@[simp] theorem resetBlock_illegal (s : State) : (resetBlock s).illegal = State.reset.illegal := rfl
@[simp] theorem resetBlock_overrun (s : State) : (resetBlock s).overrun = State.reset.overrun := rfl
@[simp] theorem resetBlock_err (s : State) : (resetBlock s).err = State.reset.err := rfl
@[simp] theorem resetBlock_word (s : State) : (resetBlock s).word = State.reset.word := rfl
@[simp] theorem resetBlock_luxCenti (s : State) : (resetBlock s).luxCenti = State.reset.luxCenti := rfl
@[simp] theorem resetBlock_luxF32 (s : State) : (resetBlock s).luxF32 = State.reset.luxF32 := rfl
@[simp] theorem resetBlock_pollCnt (s : State) : (resetBlock s).pollCnt = State.reset.pollCnt := rfl
@[simp] theorem resetBlock_devAddr (s : State) : (resetBlock s).devAddr = State.reset.devAddr := rfl
@[simp] theorem resetBlock_devValid (s : State) : (resetBlock s).devValid = State.reset.devValid := rfl
@[simp] theorem resetBlock_seqState (s : State) : (resetBlock s).seqState = State.reset.seqState := rfl
@[simp] theorem resetBlock_seqOp (s : State) : (resetBlock s).seqOp = State.reset.seqOp := rfl
@[simp] theorem resetBlock_seqPtr (s : State) : (resetBlock s).seqPtr = State.reset.seqPtr := rfl
@[simp] theorem resetBlock_seqData (s : State) : (resetBlock s).seqData = State.reset.seqData := rfl
@[simp] theorem resetBlock_seqK (s : State) : (resetBlock s).seqK = State.reset.seqK := rfl
@[simp] theorem resetBlock_seqPolls (s : State) : (resetBlock s).seqPolls = State.reset.seqPolls := rfl
@[simp] theorem resetBlock_seqWord (s : State) : (resetBlock s).seqWord = State.reset.seqWord := rfl
@[simp] theorem resetBlock_answer (s : State) : (resetBlock s).answer = State.reset.answer := rfl
@[simp] theorem resetBlock_program (s : State) : (resetBlock s).program = s.program := rfl
@[simp] theorem resetBlock_schedule (s : State) : (resetBlock s).schedule = s.schedule := rfl
@[simp] theorem resetBlock_trace (s : State) : (resetBlock s).trace = s.trace := rfl
@[simp] theorem resetBlock_reads (s : State) : (resetBlock s).reads = s.reads := rfl

@[simp] theorem logRead_lastCmd (off : Offset) (s : State) : (logRead off s).lastCmd = s.lastCmd := rfl
@[simp] theorem logRead_busy (off : Offset) (s : State) : (logRead off s).busy = s.busy := rfl
@[simp] theorem logRead_done (off : Offset) (s : State) : (logRead off s).done = s.done := rfl
@[simp] theorem logRead_illegal (off : Offset) (s : State) : (logRead off s).illegal = s.illegal := rfl
@[simp] theorem logRead_overrun (off : Offset) (s : State) : (logRead off s).overrun = s.overrun := rfl
@[simp] theorem logRead_err (off : Offset) (s : State) : (logRead off s).err = s.err := rfl
@[simp] theorem logRead_word (off : Offset) (s : State) : (logRead off s).word = s.word := rfl
@[simp] theorem logRead_luxCenti (off : Offset) (s : State) : (logRead off s).luxCenti = s.luxCenti := rfl
@[simp] theorem logRead_luxF32 (off : Offset) (s : State) : (logRead off s).luxF32 = s.luxF32 := rfl
@[simp] theorem logRead_pollCnt (off : Offset) (s : State) : (logRead off s).pollCnt = s.pollCnt := rfl
@[simp] theorem logRead_devAddr (off : Offset) (s : State) : (logRead off s).devAddr = s.devAddr := rfl
@[simp] theorem logRead_devValid (off : Offset) (s : State) : (logRead off s).devValid = s.devValid := rfl
@[simp] theorem logRead_seqState (off : Offset) (s : State) : (logRead off s).seqState = s.seqState := rfl
@[simp] theorem logRead_seqOp (off : Offset) (s : State) : (logRead off s).seqOp = s.seqOp := rfl
@[simp] theorem logRead_seqPtr (off : Offset) (s : State) : (logRead off s).seqPtr = s.seqPtr := rfl
@[simp] theorem logRead_seqData (off : Offset) (s : State) : (logRead off s).seqData = s.seqData := rfl
@[simp] theorem logRead_seqK (off : Offset) (s : State) : (logRead off s).seqK = s.seqK := rfl
@[simp] theorem logRead_seqPolls (off : Offset) (s : State) : (logRead off s).seqPolls = s.seqPolls := rfl
@[simp] theorem logRead_seqWord (off : Offset) (s : State) : (logRead off s).seqWord = s.seqWord := rfl
@[simp] theorem logRead_answer (off : Offset) (s : State) : (logRead off s).answer = s.answer := rfl
@[simp] theorem logRead_program (off : Offset) (s : State) : (logRead off s).program = s.program := rfl
@[simp] theorem logRead_schedule (off : Offset) (s : State) : (logRead off s).schedule = s.schedule := rfl
@[simp] theorem logRead_trace (off : Offset) (s : State) : (logRead off s).trace = s.trace := rfl
@[simp] theorem logRead_reads (off : Offset) (s : State) : (logRead off s).reads = s.reads ++ [⟨off, readReg off s⟩] := rfl

@[simp] theorem setProgram_lastCmd (p : List HostAction) (s : State) : (setProgram p s).lastCmd = s.lastCmd := rfl
@[simp] theorem setProgram_busy (p : List HostAction) (s : State) : (setProgram p s).busy = s.busy := rfl
@[simp] theorem setProgram_done (p : List HostAction) (s : State) : (setProgram p s).done = s.done := rfl
@[simp] theorem setProgram_illegal (p : List HostAction) (s : State) : (setProgram p s).illegal = s.illegal := rfl
@[simp] theorem setProgram_overrun (p : List HostAction) (s : State) : (setProgram p s).overrun = s.overrun := rfl
@[simp] theorem setProgram_err (p : List HostAction) (s : State) : (setProgram p s).err = s.err := rfl
@[simp] theorem setProgram_word (p : List HostAction) (s : State) : (setProgram p s).word = s.word := rfl
@[simp] theorem setProgram_luxCenti (p : List HostAction) (s : State) : (setProgram p s).luxCenti = s.luxCenti := rfl
@[simp] theorem setProgram_luxF32 (p : List HostAction) (s : State) : (setProgram p s).luxF32 = s.luxF32 := rfl
@[simp] theorem setProgram_pollCnt (p : List HostAction) (s : State) : (setProgram p s).pollCnt = s.pollCnt := rfl
@[simp] theorem setProgram_devAddr (p : List HostAction) (s : State) : (setProgram p s).devAddr = s.devAddr := rfl
@[simp] theorem setProgram_devValid (p : List HostAction) (s : State) : (setProgram p s).devValid = s.devValid := rfl
@[simp] theorem setProgram_seqState (p : List HostAction) (s : State) : (setProgram p s).seqState = s.seqState := rfl
@[simp] theorem setProgram_seqOp (p : List HostAction) (s : State) : (setProgram p s).seqOp = s.seqOp := rfl
@[simp] theorem setProgram_seqPtr (p : List HostAction) (s : State) : (setProgram p s).seqPtr = s.seqPtr := rfl
@[simp] theorem setProgram_seqData (p : List HostAction) (s : State) : (setProgram p s).seqData = s.seqData := rfl
@[simp] theorem setProgram_seqK (p : List HostAction) (s : State) : (setProgram p s).seqK = s.seqK := rfl
@[simp] theorem setProgram_seqPolls (p : List HostAction) (s : State) : (setProgram p s).seqPolls = s.seqPolls := rfl
@[simp] theorem setProgram_seqWord (p : List HostAction) (s : State) : (setProgram p s).seqWord = s.seqWord := rfl
@[simp] theorem setProgram_answer (p : List HostAction) (s : State) : (setProgram p s).answer = s.answer := rfl
@[simp] theorem setProgram_program (p : List HostAction) (s : State) : (setProgram p s).program = p := rfl
@[simp] theorem setProgram_schedule (p : List HostAction) (s : State) : (setProgram p s).schedule = s.schedule := rfl
@[simp] theorem setProgram_trace (p : List HostAction) (s : State) : (setProgram p s).trace = s.trace := rfl
@[simp] theorem setProgram_reads (p : List HostAction) (s : State) : (setProgram p s).reads = s.reads := rfl

@[simp] theorem setSchedule_lastCmd (ts : List Turn) (s : State) : (setSchedule ts s).lastCmd = s.lastCmd := rfl
@[simp] theorem setSchedule_busy (ts : List Turn) (s : State) : (setSchedule ts s).busy = s.busy := rfl
@[simp] theorem setSchedule_done (ts : List Turn) (s : State) : (setSchedule ts s).done = s.done := rfl
@[simp] theorem setSchedule_illegal (ts : List Turn) (s : State) : (setSchedule ts s).illegal = s.illegal := rfl
@[simp] theorem setSchedule_overrun (ts : List Turn) (s : State) : (setSchedule ts s).overrun = s.overrun := rfl
@[simp] theorem setSchedule_err (ts : List Turn) (s : State) : (setSchedule ts s).err = s.err := rfl
@[simp] theorem setSchedule_word (ts : List Turn) (s : State) : (setSchedule ts s).word = s.word := rfl
@[simp] theorem setSchedule_luxCenti (ts : List Turn) (s : State) : (setSchedule ts s).luxCenti = s.luxCenti := rfl
@[simp] theorem setSchedule_luxF32 (ts : List Turn) (s : State) : (setSchedule ts s).luxF32 = s.luxF32 := rfl
@[simp] theorem setSchedule_pollCnt (ts : List Turn) (s : State) : (setSchedule ts s).pollCnt = s.pollCnt := rfl
@[simp] theorem setSchedule_devAddr (ts : List Turn) (s : State) : (setSchedule ts s).devAddr = s.devAddr := rfl
@[simp] theorem setSchedule_devValid (ts : List Turn) (s : State) : (setSchedule ts s).devValid = s.devValid := rfl
@[simp] theorem setSchedule_seqState (ts : List Turn) (s : State) : (setSchedule ts s).seqState = s.seqState := rfl
@[simp] theorem setSchedule_seqOp (ts : List Turn) (s : State) : (setSchedule ts s).seqOp = s.seqOp := rfl
@[simp] theorem setSchedule_seqPtr (ts : List Turn) (s : State) : (setSchedule ts s).seqPtr = s.seqPtr := rfl
@[simp] theorem setSchedule_seqData (ts : List Turn) (s : State) : (setSchedule ts s).seqData = s.seqData := rfl
@[simp] theorem setSchedule_seqK (ts : List Turn) (s : State) : (setSchedule ts s).seqK = s.seqK := rfl
@[simp] theorem setSchedule_seqPolls (ts : List Turn) (s : State) : (setSchedule ts s).seqPolls = s.seqPolls := rfl
@[simp] theorem setSchedule_seqWord (ts : List Turn) (s : State) : (setSchedule ts s).seqWord = s.seqWord := rfl
@[simp] theorem setSchedule_answer (ts : List Turn) (s : State) : (setSchedule ts s).answer = s.answer := rfl
@[simp] theorem setSchedule_program (ts : List Turn) (s : State) : (setSchedule ts s).program = s.program := rfl
@[simp] theorem setSchedule_schedule (ts : List Turn) (s : State) : (setSchedule ts s).schedule = ts := rfl
@[simp] theorem setSchedule_trace (ts : List Turn) (s : State) : (setSchedule ts s).trace = s.trace := rfl
@[simp] theorem setSchedule_reads (ts : List Turn) (s : State) : (setSchedule ts s).reads = s.reads := rfl

@[simp] theorem readyToIssue_lastCmd (v : Word32) (s : State) : (readyToIssue v s).lastCmd = s.lastCmd := rfl
@[simp] theorem readyToIssue_busy (v : Word32) (s : State) : (readyToIssue v s).busy = false := rfl
@[simp] theorem readyToIssue_done (v : Word32) (s : State) : (readyToIssue v s).done = s.done := rfl
@[simp] theorem readyToIssue_illegal (v : Word32) (s : State) : (readyToIssue v s).illegal = s.illegal := rfl
@[simp] theorem readyToIssue_overrun (v : Word32) (s : State) : (readyToIssue v s).overrun = s.overrun := rfl
@[simp] theorem readyToIssue_err (v : Word32) (s : State) : (readyToIssue v s).err = s.err := rfl
@[simp] theorem readyToIssue_word (v : Word32) (s : State) : (readyToIssue v s).word = s.word := rfl
@[simp] theorem readyToIssue_luxCenti (v : Word32) (s : State) : (readyToIssue v s).luxCenti = s.luxCenti := rfl
@[simp] theorem readyToIssue_luxF32 (v : Word32) (s : State) : (readyToIssue v s).luxF32 = s.luxF32 := rfl
@[simp] theorem readyToIssue_pollCnt (v : Word32) (s : State) : (readyToIssue v s).pollCnt = s.pollCnt := rfl
@[simp] theorem readyToIssue_devAddr (v : Word32) (s : State) : (readyToIssue v s).devAddr = s.devAddr := rfl
@[simp] theorem readyToIssue_devValid (v : Word32) (s : State) : (readyToIssue v s).devValid = true := rfl
@[simp] theorem readyToIssue_seqState (v : Word32) (s : State) : (readyToIssue v s).seqState = .idle := rfl
@[simp] theorem readyToIssue_seqOp (v : Word32) (s : State) : (readyToIssue v s).seqOp = s.seqOp := rfl
@[simp] theorem readyToIssue_seqPtr (v : Word32) (s : State) : (readyToIssue v s).seqPtr = s.seqPtr := rfl
@[simp] theorem readyToIssue_seqData (v : Word32) (s : State) : (readyToIssue v s).seqData = s.seqData := rfl
@[simp] theorem readyToIssue_seqK (v : Word32) (s : State) : (readyToIssue v s).seqK = s.seqK := rfl
@[simp] theorem readyToIssue_seqPolls (v : Word32) (s : State) : (readyToIssue v s).seqPolls = s.seqPolls := rfl
@[simp] theorem readyToIssue_seqWord (v : Word32) (s : State) : (readyToIssue v s).seqWord = s.seqWord := rfl
@[simp] theorem readyToIssue_answer (v : Word32) (s : State) : (readyToIssue v s).answer = none := rfl
@[simp] theorem readyToIssue_program (v : Word32) (s : State) : (readyToIssue v s).program = .write 0x00#8 .four v :: s.program := rfl
@[simp] theorem readyToIssue_schedule (v : Word32) (s : State) : (readyToIssue v s).schedule = .host :: s.schedule := rfl
@[simp] theorem readyToIssue_trace (v : Word32) (s : State) : (readyToIssue v s).trace = s.trace := rfl
@[simp] theorem readyToIssue_reads (v : Word32) (s : State) : (readyToIssue v s).reads = s.reads := rfl

end Sys2Proof.Machine
end

