-- ==== Sys2Proof/Laws/Operands.lean ====
section
/-! SUPPORT. The fields of the words the host reads and of the words the bus carries. -/

namespace Sys2Proof.Machine

/-! ## STATUS -/

theorem statusWord_getLsbD (s : State) (n : Nat) :
    (statusWord s).getLsbD n =
      (0#26 ++ BitVec.ofBool (tmo s) ++ BitVec.ofBool (errF s) ++ BitVec.ofBool s.overrun ++ BitVec.ofBool s.illegal
        ++ BitVec.ofBool s.done ++ BitVec.ofBool s.busy : BitVec (26 + 1 + 1 + 1 + 1 + 1 + 1)).getLsbD n := rfl

theorem statusWord_busy (s : State) : (statusWord s).getLsbD 0 = s.busy := by
  rw [statusWord_getLsbD]; simp only [BitVec.getLsbD_append]; simp

theorem statusWord_done (s : State) : (statusWord s).getLsbD 1 = s.done := by
  rw [statusWord_getLsbD]; simp only [BitVec.getLsbD_append]; simp

theorem statusWord_illegal (s : State) : (statusWord s).getLsbD 2 = s.illegal := by
  rw [statusWord_getLsbD]; simp only [BitVec.getLsbD_append]; simp

theorem statusWord_overrun (s : State) : (statusWord s).getLsbD 3 = s.overrun := by
  rw [statusWord_getLsbD]; simp only [BitVec.getLsbD_append]; simp

theorem statusWord_errF (s : State) : (statusWord s).getLsbD 4 = errF s := by
  rw [statusWord_getLsbD]; simp only [BitVec.getLsbD_append]; simp

theorem statusWord_tmo (s : State) : (statusWord s).getLsbD 5 = tmo s := by
  rw [statusWord_getLsbD]; simp only [BitVec.getLsbD_append]; simp

theorem statusWord_reserved (s : State) (n : Nat) (h : 6 ≤ n) : (statusWord s).getLsbD n = false := by
  rw [statusWord_getLsbD]
  simp only [BitVec.getLsbD_append]
  repeat rw [if_neg (by omega)]
  simp

theorem tmo_eq_decide (s : State) : tmo s = decide (s.err.toInt = -100) := by
  have h : s.err = Config.timeoutCode ↔ s.err.toInt = -100 := by
    constructor
    · intro h; rw [h]; rfl
    · intro h; exact BitVec.eq_of_toInt_eq (h.trans (by rfl))
  rw [tmo, ← decide_eq_decide.2 h, beq_eq_decide]

/-! ## DEVADDR -/

theorem devAddrWord_getLsbD (s : State) (n : Nat) :
    (devAddrWord s).getLsbD n = (BitVec.ofBool s.devValid ++ 0#24 ++ s.devAddr : BitVec (1 + 24 + 7)).getLsbD n := rfl

@[simp] theorem devAddrWord_addr (s : State) : (devAddrWord s).extractLsb' 0 7 = s.devAddr := by
  ext i hi
  rw [BitVec.getElem_extractLsb', devAddrWord_getLsbD]
  simp only [BitVec.getLsbD_append, Nat.zero_add, hi, if_true]
  exact BitVec.getLsbD_eq_getElem hi

@[simp] theorem devAddrWord_reserved (s : State) : (devAddrWord s).extractLsb' 7 24 = 0#24 := by
  ext i hi
  rw [BitVec.getElem_extractLsb', devAddrWord_getLsbD]
  simp only [BitVec.getLsbD_append]
  rw [if_neg (by omega), if_pos (by omega)]
  simp

theorem devAddrWord_valid (s : State) : (devAddrWord s).getLsbD 31 = s.devValid := by
  rw [devAddrWord_getLsbD]; simp only [BitVec.getLsbD_append]; simp

/-! ## The wire -/

theorem assembleWord_getLsbD (b0 b1 : Byte) (n : Nat) :
    (assembleWord b0 b1).getLsbD n = (b0 ++ b1 : BitVec (8 + 8)).getLsbD n := rfl

@[simp] theorem assembleWord_high (b0 b1 : Byte) : (assembleWord b0 b1).extractLsb' 8 8 = b0 := by
  ext i hi
  rw [BitVec.getElem_extractLsb', assembleWord_getLsbD]
  simp only [BitVec.getLsbD_append]
  rw [if_neg (by omega), show 8 + i - 8 = i by omega]
  exact BitVec.getLsbD_eq_getElem hi

@[simp] theorem assembleWord_low (b0 b1 : Byte) : (assembleWord b0 b1).extractLsb' 0 8 = b1 := by
  ext i hi
  rw [BitVec.getElem_extractLsb', assembleWord_getLsbD]
  simp only [BitVec.getLsbD_append]
  rw [if_pos (by omega), show 0 + i = i by omega]
  exact BitVec.getLsbD_eq_getElem hi

/-- Echoing the two bytes of a configuration write gives the word back (R61). -/
theorem assembleWord_of_halves (w : Word16) : assembleWord (w.extractLsb' 8 8) (w.extractLsb' 0 8) = w := by
  apply BitVec.eq_of_getLsbD_eq
  intro i hi
  rw [assembleWord_getLsbD]
  simp only [BitVec.getLsbD_append, BitVec.getLsbD_extractLsb']
  split
  · simp_all
  · rw [show 8 + (i - 8) = i by omega]
    simp [show i - 8 < 8 by omega]

/-- Four bytes on either order of byte lanes are the register value they came from (R62). -/
theorem ofLanes_toLanes (e : Config.ByteLanes) (v : Word32) :
    ∃ a b c d, toLanes e v = [a, b, c, d] ∧ ofLanes e a b c d = v := by
  have h : ∀ v : Word32,
      (v.extractLsb' 24 8 ++ v.extractLsb' 16 8 ++ v.extractLsb' 8 8 ++ v.extractLsb' 0 8 : BitVec (8 + 8 + 8 + 8)) = v := by
    intro v
    apply BitVec.eq_of_getLsbD_eq
    intro i hi
    simp only [BitVec.getLsbD_append, BitVec.getLsbD_extractLsb']
    split
    · simp_all
    · split
      · rw [show 8 + (i - 8) = i by omega]; simp [show i - 8 < 8 by omega]
      · split
        · rw [show 16 + (i - 8 - 8) = i by omega]; simp [show i - 8 - 8 < 8 by omega]
        · rw [show 24 + (i - 8 - 8 - 8) = i by omega]; simp [show i - 8 - 8 - 8 < 8 by omega]
  cases e
  · exact ⟨_, _, _, _, rfl, h v⟩
  · exact ⟨_, _, _, _, rfl, h v⟩

/-- `errOf(s) = -10 * s` exactly (R102). -/
theorem errOf_toInt (st : Byte) : (errOf st).toInt = -10 * (st.toNat : Int) := by
  revert st; decide

theorem errOf_eq_zero_iff (st : Byte) : errOf st = 0#16 ↔ st = 0#8 := by
  revert st; decide

end Sys2Proof.Machine
end

