-- ==== Sys2Proof/Laws/Ops.lean ====
section
/-! SUPPORT. What each shared operation can do, said once. -/

namespace Sys2Proof.Machine

/-! ## The completion of each command -/

/-- The completion each command's meaning uses (R106 to R109, R140 to R143). -/
def finishOf (i : Instr) : Word16 → Word16 → Byte → State → State :=
  if hasRead (fieldsOf i).op = false then finishWrite
  else if (fieldsOf i).op = OpCode.rdword ∨ (fieldsOf i).op = OpCode.regrd then finishWord
  else if (fieldsOf i).op = OpCode.rdmeas then finishMeasurement
  else finishIdentifier

theorem finishOf_cases (i : Instr) :
    finishOf i = finishWrite ∨ finishOf i = finishWord ∨ finishOf i = finishIdentifier ∨ finishOf i = finishMeasurement := by
  unfold finishOf
  split_ifs <;> simp

/-- Every meaning is one step of its own command. -/
theorem exec_eq_commandStep (i : Instr) (s : State) : exec i s = commandStep (encode i) (finishOf i) s := by
  cases i <;> rfl

theorem exec_of_busy (i : Instr) (s : State) (h : s.busy = true) : exec i s = sequencerStep (finishOf i) s := by
  rw [exec_eq_commandStep, commandStep, if_pos h]

theorem exec_of_idle (i : Instr) (s : State) (h : s.busy = false) : exec i s = .next (issue (encode i) s) := by
  rw [exec_eq_commandStep, commandStep, if_neg (by simp [h])]

/-- Every completion is a `complete` that keeps the error it is given, and reports a value only where there is no error. -/
theorem finishOf_is_complete (i : Instr) (w e : Word16) (n : Byte) (s : State) (hw : e ≠ 0#16 → w = 0#16) :
    ∃ w' c n', finishOf i w e n s = complete w' e c (f32OfCenti c.toNat) n' s
      ∧ (e ≠ 0#16 → w' = 0#16 ∧ c = 0#27) ∧ (c = 0#27 ∨ c = centiOf w') ∧ (n' = 0#8 ∨ n' = n) := by
  have hc := centiOf_toNat w
  rcases finishOf_cases i with h | h | h | h <;> rw [h]
  · exact ⟨_, _, _, rfl, by simp, by simp, by simp⟩
  · exact ⟨_, _, _, rfl, by simpa using hw, by simp, by simp⟩
  · by_cases h : e = 0#16
    · subst h; exact ⟨w, 0#27, n, rfl, by simp, by simp, by simp⟩
    · exact ⟨0#16, 0#27, n, by simp [finishIdentifier, h, f32OfCenti], by simp, by simp, by simp⟩
  · by_cases h : e = 0#16
    · subst h; exact ⟨w, centiOf w, n, by simp [finishMeasurement, f32Of, hc], by simp, by simp, by simp⟩
    · exact ⟨0#16, 0#27, n, by simp [finishMeasurement, h, f32OfCenti], by simp, by simp, by simp⟩

/-! ## One step of the sequencer -/

/-- Everything a step of the sequencer can do when it answers a next state: it waits, or it takes one event at its control
point. -/
theorem sequencerStep_cases {i : Instr} {s t : State} (h : sequencerStep (finishOf i) s = .next t) :
    t = s
    ∨ (s.seqState = .wbegin ∧ s.answer = some .returned
        ∧ t = goTo .wbyte (setK 0#2 (emit (.beginTx s.devAddr) (takeAnswer s))))
    ∨ (∃ b, s.seqState = .wbyte ∧ (bytesOf s.seqOp s.seqPtr s.seqData)[s.seqK.toNat]? = some b
        ∧ s.answer = some .returned
        ∧ t = afterWrite (bytesOf s.seqOp s.seqPtr s.seqData).length
            (setK (s.seqK + 1#2) (emit (.write b) (takeAnswer s))))
    ∨ (∃ st, s.seqState = .wend ∧ s.answer = some (.status st)
        ∧ t = afterEnd st (emit (.endTx Config.endStop st) (takeAnswer s)))
    ∨ (s.seqState = .rreq ∧ s.answer = some .returned
        ∧ t = goTo .rpoll (setPolls 0#8 (emit (.request s.devAddr Config.readCount) (takeAnswer s))))
    ∨ (∃ c, s.seqState = .rpoll ∧ s.answer = some (.count c)
        ∧ t = goTo (if 2 ≤ c.toNat then .rread else .rwait) (emit (.avail c) (takeAnswer s)))
    ∨ (s.seqState = .rwait ∧ s.answer = some .waited
        ∧ t = afterWait (finishOf i) (setPolls (s.seqPolls + 1#8) (emit (.wait Config.pollIntervalMs) (takeAnswer s))))
    ∨ (∃ b0 b1, s.seqState = .rread ∧ s.answer = some (.bytes b0 b1)
        ∧ t = finishOf i (assembleWord b0 b1) 0#16 s.seqPolls
            (setSeqWord (assembleWord b0 b1) (emit (.read Config.readCount b0 b1) (takeAnswer s)))) := by
  unfold sequencerStep at h
  split at h <;> rename_i hs
  · left; simpa using h.symm
  · simp only [stepWBegin] at h
    split at h
    · left; simpa using h.symm
    · rename_i ha
      right; left; exact ⟨hs, ha, by simpa using h.symm⟩
    · cases h
  · simp only [stepWByte] at h
    split at h
    · cases h
    · rename_i b hb
      split at h
      · left; simpa using h.symm
      · rename_i ha
        right; right; left; exact ⟨b, hs, hb, ha, by simpa using h.symm⟩
      · cases h
  · simp only [stepWEnd] at h
    split at h
    · left; simpa using h.symm
    · rename_i st ha
      right; right; right; left; exact ⟨st, hs, ha, by simpa using h.symm⟩
    · cases h
  · simp only [stepRReq] at h
    split at h
    · left; simpa using h.symm
    · rename_i ha
      right; right; right; right; left; exact ⟨hs, ha, by simpa using h.symm⟩
    · cases h
  · simp only [stepRPoll] at h
    split at h
    · left; simpa using h.symm
    · rename_i c ha
      right; right; right; right; right; left; exact ⟨c, hs, ha, by simpa using h.symm⟩
    · cases h
  · simp only [stepRWait] at h
    split at h
    · left; simpa using h.symm
    · rename_i ha
      right; right; right; right; right; right; left; exact ⟨hs, ha, by simpa using h.symm⟩
    · cases h
  · simp only [stepRRead] at h
    split at h
    · left; simpa using h.symm
    · rename_i b0 b1 ha
      right; right; right; right; right; right; right; exact ⟨b0, b1, hs, ha, by simpa using h.symm⟩
    · cases h

/-- What follows a byte: the end or the next byte, with nothing but the control point changed. -/
theorem afterWrite_eq (n : Nat) (s : State) :
    afterWrite n s = goTo (if s.seqK.toNat = n then .wend else s.seqState) s := by
  unfold afterWrite
  split <;> rfl

/-- What follows the end status: a completion with no value, or the read phase. -/
theorem afterEnd_cases (st : Byte) (s : State) :
    (afterEnd st s = complete 0#16 (errOf st) 0#27 0#32 0#8 s ∧ (errOf st ≠ 0#16 ∨ hasRead s.seqOp = false))
      ∨ (afterEnd st s = goTo .rreq s ∧ errOf st = 0#16 ∧ hasRead s.seqOp = true) := by
  unfold afterEnd
  by_cases he : errOf st = 0#16
  · by_cases hr : hasRead s.seqOp = true
    · right; simp [he, hr]
    · left; simp [he, hr]
  · left; simp [he]

/-! ## The agents -/

/-- Everything a host turn can do when it answers a next state. -/
theorem hostTurn_cases {s t : State} (h : hostTurn s = .next t) :
    (s.program = [] ∧ t = s)
    ∨ (∃ off p, t = logRead off (setProgram p s))
    ∨ (∃ off v p, s.program = .write off .four v :: p ∧ writeReg off v (setProgram p s) = .next t) := by
  unfold hostTurn at h
  split at h
  · rename_i hp; left; exact ⟨hp, by simpa using h.symm⟩
  · rename_i off size p hp
    right; left
    unfold memRead at h
    split at h
    · exact ⟨off, p, by simpa using h.symm⟩
    · cases h
  · rename_i off size v p hp
    right; right
    unfold memWrite at h
    split at h
    · rename_i hd
      have : size = .four := by cases size <;> simp_all [accessDefined]
      subst this
      exact ⟨off, v, p, hp, h⟩
    · cases h
  · rename_i p hp
    right; left
    rw [memRead, if_pos (by decide)] at h
    split at h
    · refine ⟨0x04#8, s.program, ?_⟩
      simpa [setProgram] using h.symm
    · exact ⟨0x04#8, p, by simpa using h.symm⟩

/-- Everything a write of a whole register can do when it answers a next state. -/
theorem writeReg_cases {off : Offset} {v : Word32} {s t : State} (h : writeReg off v s = .next t) :
    t = s ∨ (off = 0x04#8 ∧ t = writeStatus v s)
    ∨ (off = 0x1C#8 ∧ s.busy = false ∧ t = setDevAddr v s)
    ∨ ((off = 0x00#8 ∨ off = 0x1C#8) ∧ s.busy = true ∧ t = raiseOverrun s)
    ∨ (off = 0x00#8 ∧ s.busy = false ∧ (s.devValid = false ∨ ∃ e, decode v = .error e) ∧ t = raiseIllegal s)
    ∨ (∃ i, off = 0x00#8 ∧ s.busy = false ∧ s.devValid = true ∧ decode v = .ok i ∧ t = accept (encode i) s) := by
  unfold writeReg at h
  split at h
  · unfold writeCmd at h
    split at h
    · rename_i hb; right; right; right; left; exact ⟨.inl rfl, hb, by simpa using h.symm⟩
    · rename_i hb
      split at h
      · rename_i hv
        right; right; right; right; left; exact ⟨rfl, by simpa using hb, .inl hv, by simpa using h.symm⟩
      · rename_i hv
        split at h
        · rename_i e he
          right; right; right; right; left; exact ⟨rfl, by simpa using hb, .inr ⟨e, he⟩, by simpa using h.symm⟩
        · rename_i i hd
          rw [exec_of_idle i s (by simpa using hb), issue, if_pos (by simpa using hv)] at h
          right; right; right; right; right
          exact ⟨i, rfl, by simpa using hb, by simpa using hv, hd, by simpa using h.symm⟩
  · right; left; exact ⟨rfl, by simpa using h.symm⟩
  · unfold writeDevAddr at h
    split at h
    · rename_i hb; right; right; right; left; exact ⟨.inr rfl, hb, by simpa using h.symm⟩
    · rename_i hb; right; right; left; exact ⟨rfl, by simpa using hb, by simpa using h.symm⟩
  · left; simpa using h.symm

/-- Everything a transport turn can do when it answers a next state. -/
theorem transportTurn_cases {d : Draw} {s t : State} (h : transportTurn d s = .next t) :
    t = s ∨ ∃ a, s.answer = none ∧ s.seqState ≠ .rwait ∧ answerFits s.seqState a = true ∧ t = giveAnswer a s := by
  unfold transportTurn at h
  split at h
  · left; simpa using h.symm
  · rename_i ha
    have given : ∀ a, s.seqState ≠ .rwait → answerFits s.seqState a = true → .next (giveAnswer a s) = (.next t : Result) →
        t = s ∨ ∃ a, s.answer = none ∧ s.seqState ≠ .rwait ∧ answerFits s.seqState a = true ∧ t = giveAnswer a s :=
      fun a hs hf ht => .inr ⟨a, ha, hs, hf, by simpa using ht.symm⟩
    unfold outstanding at h
    cases hs : s.seqState <;> rw [hs] at given <;> simp only [hs] at h
    · left; simpa using h.symm
    · exact given _ nofun rfl h
    · cases hb : (bytesOf s.seqOp s.seqPtr s.seqData)[s.seqK.toNat]? <;> simp only [hb, Option.map_none, Option.map_some] at h
      · left; simpa using h.symm
      · exact given _ nofun rfl h
    · exact given _ nofun rfl h
    · exact given _ nofun rfl h
    · exact given _ nofun rfl h
    · left; simpa [answerPrimitive] using h.symm
    · unfold answerPrimitive at h
      simp only at h
      split at h
      · exact given _ nofun rfl h
      · cases h

/-- Everything a timer turn can do: it always answers a next state. -/
theorem timerTurn_cases (s : State) :
    timerTurn s = .next s
      ∨ (s.answer = none ∧ s.seqState = .rwait ∧ timerTurn s = .next (giveAnswer .waited s)) := by
  unfold timerTurn outstanding
  split
  · rename_i ha ho
    right; refine ⟨ha, ?_, rfl⟩
    split at ho <;> simp_all
  · left; rfl

/-- A sequencer turn waits while BUSY = 0, and is one step of the command in flight while BUSY = 1. -/
theorem sequencerTurn_cases {s t : State} (h : sequencerTurn s = .next t) :
    (s.busy = false ∧ t = s)
      ∨ (s.busy = true ∧ ∃ i, decodeFields s.seqOp s.seqPtr s.seqData = .ok i
          ∧ sequencerStep (finishOf i) s = .next t) := by
  unfold sequencerTurn at h
  split at h
  · rename_i hb
    right
    split at h
    · rename_i i hi
      refine ⟨hb, i, ?_, by rw [exec_of_busy i s hb] at h; exact h⟩
      unfold inFlight at hi
      split at hi <;> simp_all
    · cases h
  · rename_i hb; left; exact ⟨by simpa using hb, by simpa using h.symm⟩

/-- Everything a step can be: the sequencer's when no turn is left, else the first turn's. -/
theorem step_cases (s : State) :
    (s.schedule = [] ∧ step s = sequencerTurn s)
      ∨ ∃ turn ts, s.schedule = turn :: ts ∧ step s = takeTurn turn (setSchedule ts s) := by
  unfold step stepTurn
  split
  · rename_i h; left; exact ⟨h, rfl⟩
  · rename_i turn ts h; right; exact ⟨turn, ts, h, rfl⟩

/-- Everything a step can do when it answers a next state, with `u` the state less the turn it takes: a reset, a host turn, nothing
or an answer, or one step of the command in flight. -/
theorem step_next_cases {s t : State} (h : step s = .next t) :
    (∃ ts, s.schedule = .reset :: ts ∧ t = resetBlock (setSchedule ts s))
    ∨ (∃ ts, s.schedule = .host :: ts ∧ hostTurn (setSchedule ts s) = .next t)
    ∨ ∃ u, (u = s ∨ ∃ ts, u = setSchedule ts s) ∧
        (t = u ∨ (∃ a, s.answer = none ∧ answerFits s.seqState a = true ∧ t = giveAnswer a u
            ∧ ((s.seqState ≠ .rwait ∧ ∃ d ts, s.schedule = .transport d :: ts) ∨ (s.seqState = .rwait ∧ ∃ ts, s.schedule = .timer :: ts)))
          ∨ (u.busy = true ∧ ∃ i, decodeFields u.seqOp u.seqPtr u.seqData = .ok i ∧ sequencerStep (finishOf i) u = .next t)) := by
  have seq : ∀ u, sequencerTurn u = .next t → t = u ∨ (u.busy = true ∧ ∃ i, decodeFields u.seqOp u.seqPtr u.seqData = .ok i
      ∧ sequencerStep (finishOf i) u = .next t) := fun u ht => by
    rcases sequencerTurn_cases ht with ⟨-, rfl⟩ | hu
    · exact .inl rfl
    · exact .inr hu
  rcases step_cases s with ⟨-, hst⟩ | ⟨turn, ts, hsch, hst⟩ <;> rw [hst] at h
  · exact .inr (.inr ⟨s, .inl rfl, (seq s h).imp_right .inr⟩)
  · cases turn with
    | host => exact .inr (.inl ⟨ts, hsch, h⟩)
    | sequencer => exact .inr (.inr ⟨_, .inr ⟨ts, rfl⟩, (seq _ h).imp_right .inr⟩)
    | reset => exact .inl ⟨ts, hsch, by simpa [takeTurn] using h.symm⟩
    | transport d =>
      rcases transportTurn_cases h with rfl | ⟨a, ha, hs, hf, rfl⟩
      · exact .inr (.inr ⟨_, .inr ⟨ts, rfl⟩, .inl rfl⟩)
      · exact .inr (.inr ⟨_, .inr ⟨ts, rfl⟩, .inr (.inl ⟨a, ha, hf, rfl, .inl ⟨hs, d, ts, hsch⟩⟩)⟩)
    | timer =>
      simp only [takeTurn] at h
      rcases timerTurn_cases (setSchedule ts s) with ht | ⟨ha, hs, ht⟩ <;> rw [ht] at h <;> injection h with h <;> subst h
      · exact .inr (.inr ⟨_, .inr ⟨ts, rfl⟩, .inl rfl⟩)
      · have hs' : s.seqState = .rwait := hs
        exact .inr (.inr ⟨_, .inr ⟨ts, rfl⟩, .inr (.inl ⟨.waited, ha, by rw [hs'], rfl, .inr ⟨hs', ts, hsch⟩⟩)⟩)

end Sys2Proof.Machine
end

