-- ==== Sys2Proof/Laws/PerInstr.lean ====
section
/-! SUPPORT. What holds of every command as syntax: its fields pass the four checks of 30_encoding.md R85. -/

namespace Sys2Proof.Laws.FieldsWellFormed

/-- The fields of a command are well formed (R84, R85). -/
def Statement (i : Instr) : Prop := (fieldsOf i).wellFormed = true

theorem wrcmdResult : Statement .wrcmdResult := by unfold Statement; decide
theorem wrcmdConfig : Statement .wrcmdConfig := by unfold Statement; decide
theorem wrcmdLowlim : Statement .wrcmdLowlim := by unfold Statement; decide
theorem wrcmdHighlim : Statement .wrcmdHighlim := by unfold Statement; decide
theorem wrcmdMfrid : Statement .wrcmdMfrid := by unfold Statement; decide
theorem wrcmdDevid : Statement .wrcmdDevid := by unfold Statement; decide
theorem wrwordConfig (data : Word16) : Statement (.wrwordConfig data) := rfl
theorem rdword : Statement .rdword := by unfold Statement; decide
theorem regrdResult : Statement .regrdResult := by unfold Statement; decide
theorem regrdConfig : Statement .regrdConfig := by unfold Statement; decide
theorem regrdLowlim : Statement .regrdLowlim := by unfold Statement; decide
theorem regrdHighlim : Statement .regrdHighlim := by unfold Statement; decide
theorem regrdMfrid : Statement .regrdMfrid := by unfold Statement; decide
theorem regrdDevid : Statement .regrdDevid := by unfold Statement; decide
theorem rdidMfrid : Statement .rdidMfrid := by unfold Statement; decide
theorem rdidDevid : Statement .rdidDevid := by unfold Statement; decide
theorem rdcfg : Statement .rdcfg := by unfold Statement; decide
theorem wrcfg (data : Word16) : Statement (.wrcfg data) := rfl
theorem rdmeasResult : Statement .rdmeasResult := by unfold Statement; decide
theorem rdmeasLowlim : Statement .rdmeasLowlim := by unfold Statement; decide
theorem rdmeasHighlim : Statement .rdmeasHighlim := by unfold Statement; decide

end Sys2Proof.Laws.FieldsWellFormed
end

