-- ==== Sys2Proof/Laws/Run.lean ====
section
/-! SUPPORT. Steps and runs: which turn a step takes, a run cut in two, and the step that `withFetchWord` prepares. -/

namespace Sys2Proof.Machine

theorem step_of_schedule {s : State} {turn : Turn} {ts : List Turn} (h : s.schedule = turn :: ts) :
    step s = takeTurn turn (setSchedule ts s) := by
  rw [step, stepTurn, h]

theorem step_of_no_schedule {s : State} (h : s.schedule = []) : step s = sequencerTurn s := by
  rw [step, stepTurn, h]

theorem runSteps_add {m : Nat} (n : Nat) {s t : State} (h : runSteps m s = .next t) :
    runSteps (m + n) s = runSteps n t := by
  induction m generalizing s with
  | zero =>
    simp only [runSteps, Host.Outcome.next.injEq] at h
    rw [Nat.zero_add, h]
  | succ m ih =>
    rw [show m + 1 + n = (m + n) + 1 by omega]
    simp only [runSteps] at h ⊢
    cases hs : step s with
    | next u => rw [hs] at h; exact ih h
    | fault r => rw [hs] at h; cases h
    | refused r => rw [hs] at h; cases h

/-- The step after `withFetchWord` is the host's CMD write of that word to an idle, addressed block (log 7). -/
theorem step_withFetchWord (s : State) (w : Nat) :
    step (s.withFetchWord 32 w)
      = writeCmd (BitVec.ofNat 32 (w % 2 ^ 32))
          { s with busy := false, devValid := true, seqState := .idle, answer := none } := by
  rw [State.withFetchWord, step_of_schedule (turn := .host) (ts := s.schedule) rfl]
  simp only [takeTurn, hostTurn, setSchedule_program, readyToIssue_program]
  rw [memWrite, if_pos (by decide)]
  rfl

/-- A word that decodes is then accepted: the very next step runs the command. -/
theorem step_withFetchWord_of_decodes {s : State} {w : Nat} {i : Instr}
    (h : decode (BitVec.ofNat 32 (w % 2 ^ 32)) = .ok i) :
    step (s.withFetchWord 32 w)
      = exec i { s with busy := false, devValid := true, seqState := .idle, answer := none } := by
  rw [step_withFetchWord, writeCmd, if_neg (by simp), if_neg (by simp), h]

end Sys2Proof.Machine
end

