-- ==== Sys2Proof/Tests/Slice0.lean ====
section
/-! SUPPORT. The model's own tests, each about one step or one word, with expected results from the spec (the rules and
95_test_vectors.md), and for each statement that has hypotheses a concrete case that meets them. -/

namespace Sys2Proof.Tests

open Sys2Proof.Machine

/-! ## Ill-formed commands (30_encoding.md R84, R85) -/

theorem test_reserved_op_zero_ill_formed : Command.opWellFormed ⟨0x0#4, 0#4, 0x00#8, 0#16⟩ = false := by decide
theorem test_reserved_op_nine_ill_formed : Command.wellFormed ⟨0x9#4, 0#4, 0x00#8, 0#16⟩ = false := by decide
theorem test_rsv_ill_formed : Command.rsvWellFormed ⟨0x1#4, 8#4, 0x00#8, 0#16⟩ = false := by decide
theorem test_ptr_ill_formed : Command.ptrWellFormed ⟨0x1#4, 0#4, 0x04#8, 0#16⟩ = false := by decide
theorem test_wrword_ptr_ill_formed : Command.ptrWellFormed ⟨0x2#4, 0#4, 0x02#8, 0xC810#16⟩ = false := by decide
theorem test_data_ill_formed : Command.dataWellFormed ⟨0x3#4, 0#4, 0x00#8, 1#16⟩ = false := by decide
theorem test_wrcfg_well_formed : Command.wellFormed ⟨0x7#4, 0#4, 0x01#8, 0xFFFF#16⟩ = true := by decide

/-! ## Words written out from R80, R83 and R84: DATA ++ PTR ++ RSV ++ OP, bit by bit -/

theorem test_decode_wrcmdResult : decode 0b0000000000000000_00000000_0000_0001#32 = .ok .wrcmdResult := by rfl
theorem test_decode_wrcmdConfig : decode 0b0000000000000000_00000001_0000_0001#32 = .ok .wrcmdConfig := by rfl
theorem test_decode_wrcmdLowlim : decode 0b0000000000000000_00000010_0000_0001#32 = .ok .wrcmdLowlim := by rfl
theorem test_decode_wrcmdHighlim : decode 0b0000000000000000_00000011_0000_0001#32 = .ok .wrcmdHighlim := by rfl
theorem test_decode_wrcmdMfrid : decode 0b0000000000000000_01111110_0000_0001#32 = .ok .wrcmdMfrid := by rfl
theorem test_decode_wrcmdDevid : decode 0b0000000000000000_01111111_0000_0001#32 = .ok .wrcmdDevid := by rfl
theorem test_decode_wrwordConfig :
    decode 0b1100100000010000_00000001_0000_0010#32 = .ok (.wrwordConfig 0b1100100000010000#16) := by rfl
theorem test_decode_rdword : decode 0b0000000000000000_00000000_0000_0011#32 = .ok .rdword := by rfl
theorem test_decode_regrdResult : decode 0b0000000000000000_00000000_0000_0100#32 = .ok .regrdResult := by rfl
theorem test_decode_regrdConfig : decode 0b0000000000000000_00000001_0000_0100#32 = .ok .regrdConfig := by rfl
theorem test_decode_regrdLowlim : decode 0b0000000000000000_00000010_0000_0100#32 = .ok .regrdLowlim := by rfl
theorem test_decode_regrdHighlim : decode 0b0000000000000000_00000011_0000_0100#32 = .ok .regrdHighlim := by rfl
theorem test_decode_regrdMfrid : decode 0b0000000000000000_01111110_0000_0100#32 = .ok .regrdMfrid := by rfl
theorem test_decode_regrdDevid : decode 0b0000000000000000_01111111_0000_0100#32 = .ok .regrdDevid := by rfl
theorem test_decode_rdidMfrid : decode 0b0000000000000000_01111110_0000_0101#32 = .ok .rdidMfrid := by rfl
theorem test_decode_rdidDevid : decode 0b0000000000000000_01111111_0000_0101#32 = .ok .rdidDevid := by rfl
theorem test_decode_rdcfg : decode 0b0000000000000000_00000001_0000_0110#32 = .ok .rdcfg := by rfl
theorem test_decode_wrcfg : decode 0b1100111000010000_00000001_0000_0111#32 = .ok (.wrcfg 0b1100111000010000#16) := by rfl
theorem test_decode_rdmeasResult : decode 0b0000000000000000_00000000_0000_1000#32 = .ok .rdmeasResult := by rfl
theorem test_decode_rdmeasLowlim : decode 0b0000000000000000_00000010_0000_1000#32 = .ok .rdmeasLowlim := by rfl
theorem test_decode_rdmeasHighlim : decode 0b0000000000000000_00000011_0000_1000#32 = .ok .rdmeasHighlim := by rfl

/-- The illegal words of 95 section 2.4, each on its ground. -/
theorem test_illegal_words_refused :
    decode 0x00000401#32 = .error .ptrNotAllowed ∧ decode 0x00010001#32 = .error .dataNonzero
      ∧ decode 0xC8100202#32 = .error .ptrNotAllowed ∧ decode 0x00000103#32 = .error .ptrNotAllowed
      ∧ decode 0x00007D04#32 = .error .ptrNotAllowed ∧ decode 0x00000005#32 = .error .ptrNotAllowed
      ∧ decode 0x00000006#32 = .error .ptrNotAllowed ∧ decode 0x00000007#32 = .error .ptrNotAllowed
      ∧ decode 0x00000108#32 = .error .ptrNotAllowed ∧ decode 0x00000000#32 = .error .reservedOp
      ∧ decode 0x0000000F#32 = .error .reservedOp ∧ decode 0x00000081#32 = .error .rsvNonzero :=
  ⟨rfl, rfl, rfl, rfl, rfl, rfl, rfl, rfl, rfl, rfl, rfl, rfl⟩

/-- A table row's word with 16 bits given is the 32-bit word with DATA 0. -/
theorem test_table_word_of_16_bits : decodeTableWord 16 0x0107 = some (.wrcfg 0#16) := by rfl

/-- The pseudo-commands' encodings (R89). -/
theorem test_pseudo_commands :
    asmWord readLux = 0x00000008#32 ∧ asmWord readLow = 0x00000208#32 ∧ asmWord readHigh = 0x00000308#32
      ∧ asmWord readMfr = 0x00007E05#32 ∧ asmWord readDev = 0x00007F05#32 ∧ asmWord (point 0x7F#8) = 0x00007F01#32 := by
  decide

/-! ## Small states -/

/-- An idle block addressed at 0x44. -/
def idleAt : State := { State.reset with devAddr := 0x44#7, devValid := true }

/-- The command `v` in flight at a control point, with an answer waiting or none. -/
def running (v : Word32) (c : Control) (a : Option Answer) : State :=
  { accept v idleAt with seqState := c, answer := a }

/-- What a field is after a step that answers a next state. -/
def after {α : Type} (r : Result) (f : State → α) : Option α :=
  match r with
  | .next t => some (f t)
  | .fault _ => none
  | .refused _ => none

/-- Whether a step answers a next state. -/
def goesOn (r : Result) : Bool := (after r fun _ => ()).isSome

/-! ## The host interface (95 section 2.6) -/

theorem test_param_read : readReg 0x20#8 State.reset = 0x00FA000A#32 := by decide
theorem test_reset_issue_refused : after (memWrite 0x00#8 .four 0x00000008#32 State.reset) statusWord = some 0x00000004#32 := by
  decide
theorem test_devaddr_write :
    after (memWrite 0x1C#8 .four 0xFFFFFFC4#32 State.reset) (readReg 0x1C#8) = some 0x80000044#32 := by decide
theorem test_reserved_op_refused :
    after (memWrite 0x00#8 .four 0x00000009#32 idleAt) (fun t => (statusWord t, t.lastCmd)) = some (0x04#32, 0#32) := by decide
theorem test_busy_illegal_word_is_overrun :
    after (memWrite 0x00#8 .four 0x00000000#32 (running 0x8#32 .wend none)) statusWord = some 0x00000009#32 := by decide
theorem test_busy_devaddr_dropped :
    after (memWrite 0x1C#8 .four 0x45#32 (running 0x8#32 .wend none)) (fun t => (t.devAddr, t.overrun)) = some (0x44#7, true) := by
  decide
theorem test_status_clears_illegal_only :
    after (memWrite 0x04#8 .four 0x4#32 { idleAt with done := true, illegal := true, overrun := true }) statusWord
      = some 0x0000000A#32 := by decide
theorem test_status_write_keeps_error_flags :
    after (memWrite 0x04#8 .four 0xFFFFFFFF#32 { idleAt with done := true, overrun := true, err := 0xFF9C#16 }) statusWord
      = some 0x00000030#32 := by decide
theorem test_err_reads_sign_extended :
    readReg 0x08#8 { idleAt with err := BitVec.ofInt 16 (-20) } = 0xFFFFFFEC#32 := by decide
theorem test_misaligned_read_refused : goesOn (memRead 0x02#8 .two idleAt) = false := by decide
theorem test_word_write_ignored : after (memWrite 0x0C#8 .four 0x1234#32 idleAt) (·.word) = some 0#16 := by decide

/-! ## Errors and the decoder (95 sections 2.1, 2.2) -/

theorem test_errors : [0#8, 1#8, 2#8, 10#8, 255#8].map errOf = [0#16, 0xFFF6#16, 0xFFEC#16, 0xFF9C#16, 0xF60A#16] := by decide
theorem test_source_example : centiOf 0x0A64#16 = 2660#27 ∧ f32Of 0x0A64#16 = 0x41D4CCCD#32 := by decide
theorem test_least_and_largest_lux :
    f32Of 0x0001#16 = 0x3C23D70A#32 ∧ centiOf 0xFFFF#16 = 134184960#27 ∧ f32Of 0xFFFF#16 = 0x49A3CCCD#32 := by decide
theorem test_exact_lux : f32Of 0x0019#16 = 0x3E800000#32 ∧ f32Of 0x5190#16 = 0x43000000#32 ∧ f32Of 0xB000#16 = 0#32 := by decide
theorem test_mid_lux : f32Of 0x3E80#16 = 0x43947AE1#32 ∧ f32Of 0xC001#16 = 0x4223D70A#32 := by decide
theorem test_config_fields :
    getField ConfigField.rangeNumber 0xC810#16 = 0xC#16 ∧ setField ConfigField.latch 0xC810#16 0#16 = 0xC800#16 := by decide

/-! ## One step of each command (95 sections 2.3, 2.5) -/

theorem test_wrcmdResult : after (exec .wrcmdResult (running 0x00000001#32 .wend (some (.status 0#8)))) (fun t => (t.err, t.done))
    = some (0#16, true) := by decide
theorem test_wrcmdConfig : after (exec .wrcmdConfig (running 0x00000101#32 .wbyte (some .returned))) (fun t => (t.trace, t.seqState))
    = some ([.write 0x01#8], .wend) := by decide
theorem test_wrcmdLowlim : after (exec .wrcmdLowlim (running 0x00000201#32 .wbegin (some .returned))) (·.trace)
    = some [.beginTx 0x44#7] := by decide
theorem test_wrcmdHighlim : after (exec .wrcmdHighlim (running 0x00000301#32 .wend (some (.status 2#8)))) (readReg 0x08#8)
    = some 0xFFFFFFEC#32 := by decide
theorem test_wrcmdMfrid : after (exec .wrcmdMfrid (running 0x00007E01#32 .wend (some (.status 4#8)))) (·.err)
    = some (BitVec.ofInt 16 (-40)) := by decide
theorem test_wrcmdDevid : after (exec .wrcmdDevid idleAt) (fun t => (t.lastCmd, t.seqPtr)) = some (0x00007F01#32, 0x7F#8) := by
  decide
theorem test_wrwordConfig_high_byte :
    after (exec (.wrwordConfig 0xC810#16) { running 0xC8100102#32 .wbyte (some .returned) with seqK := 1#2 }) (fun t => (t.trace, t.seqState))
      = some ([.write 0xC8#8], .wbyte) := by decide
theorem test_wrwordConfig_low_byte :
    after (exec (.wrwordConfig 0xC810#16) { running 0xC8100102#32 .wbyte (some .returned) with seqK := 2#2 }) (fun t => (t.trace, t.seqState))
      = some ([.write 0x10#8], .wend) := by decide
theorem test_rdword_starts_with_request : after (exec .rdword idleAt) (·.seqState) = some .rreq := by decide
theorem test_rdword_read : after (exec .rdword (running 0x3#32 .rread (some (.bytes 0x12#8 0x34#8)))) (·.word)
    = some 0x1234#16 := by decide
theorem test_regrdResult_fault : after (exec .regrdResult (running 0x4#32 .wend (some (.status 10#8)))) statusWord
    = some 0x00000032#32 := by decide
theorem test_regrdConfig_one_byte_waits : after (exec .regrdConfig (running 0x104#32 .rpoll (some (.count 1#8)))) (·.seqState)
    = some .rwait := by decide
theorem test_regrdLowlim_reads_at_two : after (exec .regrdLowlim (running 0x204#32 .rpoll (some (.count 2#8)))) (·.seqState)
    = some .rread := by decide
theorem test_regrdHighlim_goes_on : after (exec .regrdHighlim (running 0x304#32 .wend (some (.status 0#8)))) (·.seqState)
    = some .rreq := by decide
theorem test_regrdMfrid_request : after (exec .regrdMfrid (running 0x7E04#32 .rreq (some .returned))) (·.trace)
    = some [.request 0x44#7 2#8] := by decide
theorem test_regrdDevid_read : after (exec .regrdDevid (running 0x7F04#32 .rread (some (.bytes 0x30#8 0x01#8)))) (·.word)
    = some 0x3001#16 := by decide
theorem test_rdidMfrid_fault : after (exec .rdidMfrid (running 0x7E05#32 .wend (some (.status 1#8)))) (fun t => (t.err, t.word))
    = some (BitVec.ofInt 16 (-10), 0#16) := by decide
theorem test_rdidDevid_read : after (exec .rdidDevid (running 0x7F05#32 .rread (some (.bytes 0#8 0#8)))) (fun t => (t.err, t.word))
    = some (0#16, 0#16) := by decide
theorem test_rdcfg_timeout :
    after (exec .rdcfg { running 0x106#32 .rwait (some .waited) with seqPolls := 249#8 }) (fun t => (t.err, t.pollCnt))
      = some (BitVec.ofInt 16 (-100), 250#8) := by decide
theorem test_rdcfg_no_timeout_at_249 :
    after (exec .rdcfg { running 0x106#32 .rwait (some .waited) with seqPolls := 248#8 }) (fun t => (t.seqPolls, t.seqState))
      = some (249#8, .rpoll) := by decide
theorem test_wrcfg : after (exec (.wrcfg 0xCE10#16) (running 0xCE100107#32 .wend (some (.status 2#8)))) (·.err)
    = some (BitVec.ofInt 16 (-20)) := by decide
theorem test_rdmeasResult : after (exec .rdmeasResult (running 0x8#32 .rread (some (.bytes 0x0A#8 0x64#8))))
    (fun t => (t.word, t.luxCenti, t.luxF32)) = some (0x0A64#16, 2660#27, 0x41D4CCCD#32) := by decide
theorem test_rdmeasLowlim : after (exec .rdmeasLowlim (running 0x208#32 .rread (some (.bytes 0#8 0#8))))
    (fun t => (t.err, t.luxCenti)) = some (0#16, 0#27) := by decide
theorem test_rdmeasHighlim : after (exec .rdmeasHighlim (running 0x308#32 .rread (some (.bytes 0xBF#8 0xFF#8))))
    (fun t => (t.luxCenti, t.luxF32)) = some (8386560#27, 0x47A3CCCD#32) := by decide

/-! ## The agents -/

theorem test_placed_word_is_issued : after (step (State.reset.withFetchWord 32 0x00007F05)) (fun t => (t.busy, t.lastCmd))
    = some (true, 0x00007F05#32) := by decide
theorem test_bytes_other_than_two_refused :
    goesOn (transportTurn ⟨0#8, 2#8, [1#8]⟩ (running 0x3#32 .rread none)) = false := by decide
theorem test_reset_mid_command : after (takeTurn .reset (running 0x8#32 .rpoll none)) (fun t => (t.busy, t.devValid, t.lastCmd))
    = some (false, false, 0#32) := by decide
theorem test_sequencer_goes_on_alone : after (step (running 0x8#32 .wbegin (some .returned))) (·.trace) = some [.beginTx 0x44#7] := by decide
theorem test_begin_waits_for_its_return :
    exec .rdmeasResult (running 0x8#32 .wbegin none) = .next (running 0x8#32 .wbegin none) := by rfl
theorem test_request_returns :
    after (transportTurn ⟨0#8, 0#8, []⟩ (running 0x3#32 .rreq none)) (·.answer) = some (some .returned) := by decide
theorem test_hung_transport_changes_nothing : step (running 0x8#32 .wend none) = .next (running 0x8#32 .wend none) := by rfl

/-! ## A case that meets the hypotheses of each statement that has some -/

theorem witness_LegalWordsAreTheEncodings : decode 0xFFFF0107#32 = .ok (.wrcfg 0xFFFF#16) := by rfl

theorem witness_IllegalWordsAreThoseOfTheFourGrounds :
    idleAt.busy = false ∧ legal 0x00000000#32 = false ∧ legal 0x00000081#32 = false ∧ legal 0x00000401#32 = false
      ∧ legal 0x00010003#32 = false := by decide

/-- The host about to write the command word `v`. -/
def aboutToIssue (v : Word32) : State :=
  { idleAt with schedule := [.host], program := [.write 0x00#8 .four v] }

theorem witness_StepIssuesTheDecodedCommand :
    (aboutToIssue 0x8#32).schedule = .host :: [] ∧ (aboutToIssue 0x8#32).program = .write 0x00#8 .four 0x8#32 :: []
      ∧ (aboutToIssue 0x8#32).busy = false ∧ (aboutToIssue 0x8#32).devValid = true ∧ decode 0x8#32 = .ok .rdmeasResult :=
  ⟨rfl, rfl, rfl, rfl, rfl⟩

theorem witness_StepRunsTheCommandInFlight_alone :
    let s := running 0xC8100102#32 .wbegin none
    s.busy = true ∧ decodeFields s.seqOp s.seqPtr s.seqData = .ok (.wrwordConfig 0xC810#16) ∧ s.schedule = [] :=
  ⟨rfl, rfl, rfl⟩

theorem witness_StepRunsTheCommandInFlight_at_its_turn :
    let s := { running 0x8#32 .wbegin none with schedule := [.sequencer] }
    s.busy = true ∧ decodeFields s.seqOp s.seqPtr s.seqData = .ok .rdmeasResult ∧ s.schedule = .sequencer :: [] :=
  ⟨rfl, rfl, rfl⟩

theorem witness_IdleAddressedBlockAcceptsEveryCommand : idleAt.busy = false ∧ idleAt.devValid = true := by decide

theorem witness_CommandIssueInTheOrderOfChecks :
    (running 0x8#32 .wend none).busy = true ∧ State.reset.devValid = false ∧ legal 0x9#32 = false ∧ legal 0x8#32 = true := by decide

theorem witness_IllegalRefusalOnlySetsItsBit :
    State.reset.busy = false ∧ State.reset.devValid = false ∧ idleAt.busy = false ∧ legal 0x9#32 = false := by decide

theorem witness_WriteWhileBusyOnlySetsOverrun : (running 0x8#32 .rwait none).busy = true := by decide

theorem witness_StatusReadShowsItsBits :
    6 ≤ 31 ∧ ({ idleAt with err := BitVec.ofInt 16 (-100) } : State).err = errOf 10#8 := by decide

theorem witness_DevAddrHoldsTheAddressOnceWritten :
    State.reset.busy = false ∧ State.reset.devValid = false
      ∧ idleAt.devValid = true ∧ after (step { idleAt with schedule := [.reset] }) (·.devValid) = some false
      ∧ outstanding (running 0x1#32 .wbegin none) = some (.beginTx 0x44#7)
      ∧ outstanding (running 0x3#32 .rreq none) = some (.request 0x44#7 2#8) := by decide

theorem witness_LuxCentiHoldsLuxExactly :
    ({ idleAt with luxCenti := 134184960#27 } : State).luxCenti = centiOf 0xFFFF#16 := by decide

theorem witness_OnlyAlignedWholeAccessesAreDefined :
    (AccessSize.two ≠ .four ∨ (0x04#8 : Offset).toNat % 4 ≠ 0) ∧ (AccessSize.four ≠ .four ∨ (0xFD#8 : Offset).toNat % 4 ≠ 0)
      ∧ (AccessSize.four = .four ∧ (0xFC#8 : Offset).toNat % 4 = 0) ∧ (AccessSize.four = .four ∧ (0x00#8 : Offset).toNat % 4 = 0) := by
  decide

theorem witness_ReservedOffsetsReadZeroIgnoreWrites :
    (0x24 ≤ (0x24#8 : Offset).toNat ∧ (0x24#8 : Offset).toNat ≤ 0xFC ∧ (0x24#8 : Offset).toNat % 4 = 0)
      ∧ (0x24 ≤ (0xFC#8 : Offset).toNat ∧ (0xFC#8 : Offset).toNat ≤ 0xFC ∧ (0xFC#8 : Offset).toNat % 4 = 0) := by decide

theorem witness_ReadsAndReadOnlyWritesHaveNoEffect :
    (0xFC#8 : Offset).toNat % 4 = 0 ∧ (0x08#8 : Offset) ∈ [0x08#8, 0x0C#8, 0x10#8, 0x14#8, 0x18#8, 0x20#8]
      ∧ (0x20#8 : Offset) ∈ [0x08#8, 0x0C#8, 0x10#8, 0x14#8, 0x18#8, 0x20#8] := by decide

theorem witness_WaitIdleRepeatsUntilNotBusy :
    ({ running 0x8#32 .rwait none with program := [.waitIdle] } : State).program = .waitIdle :: []
      ∧ ({ idleAt with program := [.waitIdle] } : State).program = .waitIdle :: [] := by decide

theorem witness_ReadBytesAreAssembledBigEndian :
    let s := running 0x3#32 .rread (some (.bytes 0x12#8 0x34#8))
    hasRead (fieldsOf .rdword).op = true ∧ s.busy = true ∧ s.seqState = .rread ∧ s.answer = some (.bytes 0x12#8 0x34#8) := by decide

theorem witness_BytesOfTheWritePhase :
    idleAt.busy = false ∧ idleAt.devValid = true
      ∧ (let s := running 0x3#32 .rread (some (.bytes 1#8 2#8))
         s.busy = true ∧ inWritePhase s.seqState = false ∧ goesOn (exec .rdword s) = true)
      ∧ (running 0xC8100102#32 .wbyte none).seqState = .wbyte := by decide

theorem witness_WritePhaseStepsOfEveryCommand :
    (let s := running 0x1#32 .wbegin (some .returned)
     s.busy = true ∧ s.seqState = .wbegin ∧ s.answer = some .returned)
    ∧ (let s := running 0x1#32 .wbyte (some .returned)
       s.busy = true ∧ s.seqState = .wbyte ∧ s.answer = some .returned ∧ (bytesOf s.seqOp s.seqPtr s.seqData)[s.seqK.toNat]? = some 0x00#8)
    ∧ (let s := { running 0xC8100102#32 .wbyte (some .returned) with seqK := 2#2 }
       s.busy = true ∧ s.seqState = .wbyte ∧ s.answer = some .returned ∧ (bytesOf s.seqOp s.seqPtr s.seqData)[s.seqK.toNat]? = some 0x10#8)
    ∧ (let s := running 0x4#32 .wend (some (.status 0#8))
       s.busy = true ∧ s.seqState = .wend ∧ s.answer = some (.status 0#8) ∧ hasRead s.seqOp = true) := by decide

theorem witness_ReadPhaseStepsOfEveryCommand :
    (let s := running 0x3#32 .rreq (some .returned)
     s.busy = true ∧ s.seqState = .rreq ∧ s.answer = some .returned ∧ inReadPhase s.seqState = true)
    ∧ (let s := running 0x3#32 .rpoll (some (.count 2#8))
       s.busy = true ∧ s.seqState = .rpoll ∧ s.answer = some (.count 2#8))
    ∧ (let s := running 0x3#32 .rpoll (some (.count 1#8))
       s.busy = true ∧ s.seqState = .rpoll ∧ s.answer = some (.count 1#8))
    ∧ (let s := { running 0x3#32 .rwait (some .waited) with seqPolls := 248#8 }
       s.busy = true ∧ s.seqState = .rwait ∧ s.answer = some .waited ∧ s.seqPolls.toNat < 249) := by decide

theorem witness_CommandWaitsForTheAnswer :
    ∀ c ∈ [Control.wbegin, .wbyte, .wend, .rreq, .rpoll, .rwait, .rread],
      (running 0x4#32 c none).busy = true ∧ (running 0x4#32 c none).answer = none
        ∧ (outstanding (running 0x4#32 c none)).isSome = true := by decide

theorem witness_AnswersAreTheDraws :
    (∀ c ∈ [Control.wbegin, .wbyte, .rreq, .wend, .rpoll, .rread, .rwait],
      (running 0x4#32 c none).answer = none ∧ (running 0x4#32 c none).seqState = c)
      ∧ (bytesOf 0x4#4 0x00#8 0#16)[0]? = some 0x00#8
      ∧ (⟨0#8, 0#8, [1#8, 2#8]⟩ : Draw).bytes = [1#8, 2#8] ∧ (⟨0#8, 0#8, [1#8]⟩ : Draw).bytes.length ≠ 2 := by decide

theorem witness_WriteCommandsCompleteAtTheirEnd :
    ∀ st ∈ [0#8, 255#8],
      let s := running 0xFFFF0102#32 .wend (some (.status st))
      s.busy = true ∧ s.seqOp = (fieldsOf (.wrwordConfig 0xFFFF#16)).op ∧ s.seqState = .wend ∧ s.answer = some (.status st) := by
  decide

theorem witness_WordReadsCompleteAtTheirRead :
    let s := running 0x106#32 .rread (some (.bytes 0xC8#8 0x10#8))
    s.busy = true ∧ s.seqState = .rread ∧ s.answer = some (.bytes 0xC8#8 0x10#8) := by decide

theorem witness_MeasurementsCompleteAtTheirRead :
    let s := running 0x8#32 .rread (some (.bytes 0xFF#8 0xFF#8))
    s.busy = true ∧ s.seqState = .rread ∧ s.answer = some (.bytes 0xFF#8 0xFF#8) := by decide

theorem witness_BusFaultEndsEveryCommand :
    ∀ st ∈ [1#8, 255#8],
      let s := running 0x4#32 .wend (some (.status st))
      s.busy = true ∧ s.seqState = .wend ∧ s.answer = some (.status st) ∧ st ≠ 0#8 := by decide

theorem witness_TheCeilingEndsEveryReadCommand :
    let s := { running 0x4#32 .rwait (some .waited) with seqPolls := 249#8 }
    hasRead (fieldsOf .regrdResult).op = true ∧ s.busy = true ∧ s.seqState = .rwait ∧ s.answer = some .waited
      ∧ s.seqPolls = 249#8 := by decide

/-- A step that goes on with its command and one that completes it. -/
theorem witness_SequencerStepLeavesTheRestAlone :
    (running 0x4#32 .rreq (some .returned)).busy = true ∧ after (exec .regrdResult (running 0x4#32 .rreq (some .returned))) (·.busy) = some true
      ∧ after (exec .regrdResult (running 0x4#32 .wend (some (.status 1#8)))) (·.busy) = some false := by decide

theorem witness_EventsAreTheOutstandingPrimitives :
    (running 0x4#32 .wend none).busy = true ∧ goesOn (exec .regrdResult (running 0x4#32 .wend (some (.status 1#8)))) = true
      ∧ outstanding (running 0x4#32 .wend none) = some (.endTx true)
      ∧ outstanding (running 0x4#32 .rreq none) = some (.request 0x44#7 2#8)
      ∧ outstanding (running 0x4#32 .rread none) = some (.read 2#8)
      ∧ outstanding (running 0x4#32 .rwait none) = some (.wait 10) := by decide

theorem witness_ResetAbandonsTheCommandInFlight :
    ({ running 0x8#32 .rpoll none with schedule := [.reset, .host] } : State).schedule = .reset :: [.host] := by decide

/-- A state with the invariant: RDMEAS RESULT in flight at RREAD. -/
theorem running_rread_has_the_invariant (a : Option Answer) (ts : List Turn)
    (h : ∀ x, a = some x → answerFits .rread x = true) :
    StateInv { running 0x8#32 .rread a with schedule := ts } where
  busy := ⟨fun _ => nofun, fun _ => rfl⟩
  inFlight := fun _ => ⟨rfl, (by decide : legal 0x8#32 = true), rfl, rfl, rfl⟩
  lastCmd := .inr (by decide : legal 0x8#32 = true)
  done := fun _ => rfl
  phase := ⟨nofun, fun _ => rfl⟩
  byteIndex := nofun
  polls := fun _ => (by decide : (0#8).toNat < Config.pollCeiling)
  answer := h
  err := (by decide : ErrLegal State.reset)
  pollCnt := (by decide : PollCntInRange State.reset)
  results := ⟨fun h => absurd rfl h, rfl, .inl rfl⟩

theorem witness_EveryStepKeepsTheInvariant :
    StateInv { running 0x8#32 .rread (some (.bytes 0x0A#8 0x64#8)) with schedule := [] }
      ∧ goesOn (step (running 0x8#32 .rread (some (.bytes 0x0A#8 0x64#8)))) = true :=
  ⟨running_rread_has_the_invariant _ _ (by rintro x ⟨⟩; rfl), by decide⟩

/-- A transport that hangs in the read while the host moves, and with no turn left. -/
theorem witness_PrimitiveThatNeverReturnsIsStuck :
    StateInv { running 0x8#32 .rread none with schedule := [.host] }
      ∧ StateInv { running 0x8#32 .rread none with schedule := [] }
      ∧ (running 0x8#32 .rread none).busy = true ∧ (running 0x8#32 .rread none).answer = none
      ∧ goesOn (step { running 0x8#32 .rread none with schedule := [.host] }) = true :=
  ⟨running_rread_has_the_invariant _ _ nofun, running_rread_has_the_invariant _ _ nofun, rfl, rfl, by decide⟩

/-- A wait that the timer never ends. -/
theorem witness_PrimitiveThatNeverReturnsIsStuck_wait :
    StateInv { running 0x8#32 .rwait none with schedule := [.host] }
      ∧ goesOn (step { running 0x8#32 .rwait none with schedule := [.host] }) = true :=
  ⟨{ busy := ⟨fun _ => nofun, fun _ => rfl⟩
     inFlight := fun _ => ⟨rfl, (by decide : legal 0x8#32 = true), rfl, rfl, rfl⟩
     lastCmd := .inr (by decide : legal 0x8#32 = true)
     done := fun _ => rfl
     phase := ⟨nofun, fun _ => rfl⟩
     byteIndex := nofun
     polls := fun _ => (by decide : (0#8).toNat < Config.pollCeiling)
     answer := nofun
     err := (by decide : ErrLegal State.reset)
     pollCnt := (by decide : PollCntInRange State.reset)
     results := ⟨fun h => absurd rfl h, rfl, .inl rfl⟩ }, by decide⟩

/-- Both refusals happen from states with the invariant. -/
theorem witness_InvariantStatesNeverFault :
    (StateInv { running 0x8#32 .rread none with schedule := [.transport ⟨0#8, 2#8, [1#8]⟩] }
      ∧ goesOn (step { running 0x8#32 .rread none with schedule := [.transport ⟨0#8, 2#8, [1#8]⟩] }) = false)
      ∧ goesOn (step { running 0x8#32 .rread none with schedule := [.host], program := [.read 0x02#8 .two] }) = false :=
  ⟨⟨running_rread_has_the_invariant _ _ nofun, by decide⟩, by decide⟩

theorem witness_HostCannotDisturbACommandInFlight :
    (running 0x8#32 .rwait none).busy = true
      ∧ goesOn (hostTurn { running 0x8#32 .rwait none with program := [.write 0x1C#8 .four 0x45#32] }) = true := by decide

theorem witness_ResultsChangeOnlyAtCompletion :
    after (step (running 0x8#32 .rread (some (.bytes 0x0A#8 0x64#8)))) (fun t => (t.word, t.busy)) = some (0x0A64#16, false) := by
  decide

theorem witness_BusySpansExactlyACommand :
    after (step (aboutToIssue 0x8#32)) (·.busy) = some true
      ∧ after (step (running 0x8#32 .rread (some (.bytes 0x0A#8 0x64#8)))) (·.busy) = some false
      ∧ after (step (running 0x8#32 .wbegin (some .returned))) (fun t => decide (t.trace ≠ (running 0x8#32 .wbegin (some .returned)).trace)) = some true := by
  decide

theorem witness_RefusalBitsStayUntilCleared :
    let s := { idleAt with illegal := true, overrun := true, schedule := [.host], program := [.write 0x04#8 .four 0xC#32] }
    s.illegal = true ∧ s.overrun = true ∧ after (step s) (fun t => (t.illegal, t.overrun)) = some (false, false) := by decide

/-- Steps that raise them: an illegal word to an idle block, and a write while BUSY = 1. -/
theorem witness_RefusalBitsStayUntilCleared_raised :
    idleAt.illegal = false ∧ after (step (aboutToIssue 0x9#32)) (·.illegal) = some true
      ∧ (running 0x8#32 .rwait none).overrun = false
      ∧ after (step { running 0x8#32 .rwait none with schedule := [.host], program := [.write 0x1C#8 .four 0x45#32] }) (·.overrun)
          = some true := by decide

theorem witness_EveryEventBringsTheEndNearer :
    let s := { running 0x8#32 .rread (some (.bytes 0x0A#8 0x64#8)) with schedule := [] }
    StateInv s ∧ s.busy = true ∧ decodeFields s.seqOp s.seqPtr s.seqData = .ok .rdmeasResult
      ∧ after (exec .rdmeasResult s) (fun t => decide (t.trace ≠ s.trace)) = some true :=
  ⟨running_rread_has_the_invariant _ _ (by rintro x ⟨⟩; rfl), rfl, rfl, by decide⟩

theorem witness_FairRoundsCompleteTheCommand :
    let s := { running 0x8#32 .rread none with schedule := [⟨0#8, 0#8, [1#8, 2#8]⟩].flatMap roundTurns ++ [.host] }
    StateInv s ∧ s.busy = true ∧ (∀ d ∈ [(⟨0#8, 0#8, [1#8, 2#8]⟩ : Draw)], DrawsTwoBytes d)
      ∧ [(⟨0#8, 0#8, [1#8, 2#8]⟩ : Draw)].length = eventsLeft s :=
  ⟨running_rread_has_the_invariant _ _ nofun, rfl, by decide, rfl⟩

theorem witness_SequencerRunsTheProcedureOfItsRule :
    let s : State :=
      { idleAt with
        program := [hostIssue (encode .wrcmdConfig)], schedule := .host :: turnsOf (writePhase 0x44#7 [0x01#8] 0#8) ++ [] }
    s.busy = false ∧ s.devValid = true ∧ s.answer = none
      ∧ procedureOf .wrcmdConfig s.devAddr ⟨0#8, [], 0#8, 0#8⟩ = some ⟨writePhase 0x44#7 [0x01#8] 0#8, noValue 0#16 0#8⟩
      ∧ s.program = hostIssue (encode .wrcmdConfig) :: [] ∧ s.schedule = .host :: turnsOf (writePhase 0x44#7 [0x01#8] 0#8) ++ [] := by
  decide

/-- The answers of the tests below: one failed check, then two bytes. -/
def twoChecks (st : Byte) : Answers := ⟨st, [0#8, 2#8], 0x0A#8, 0x64#8⟩

/-- A transport that never has two bytes. -/
def neverReady (st : Byte) : Answers := ⟨st, List.replicate 250 1#8, 0#8, 0#8⟩

theorem neverReady_polls (left n : Nat) :
    pollLoop left n (List.replicate left 1#8)
      = some ((List.replicate left [BusEvent.avail 1#8, .wait 10]).flatten, .timeout (n + left)) := by
  induction left generalizing n with
  | zero => rfl
  | succ left ih =>
    rw [List.replicate_succ, pollLoop, if_neg (by decide), ih]
    simp [List.replicate_succ, Config.pollIntervalMs]
    omega

theorem neverReady_times_out (a : DevAddr) (st : Byte) :
    ∃ r, readPhase a (neverReady st) = some r ∧ r.err = BitVec.ofInt 16 (-100) := by
  have h := neverReady_polls 250 0
  rw [readPhase, show Config.pollCeiling = 250 from rfl, neverReady, h]
  exact ⟨_, rfl, rfl⟩

theorem witness_EventCountsOfEveryCommand :
    (∃ r, procedureOf .wrcmdResult 0x44#7 (twoChecks 0#8) = some r ∧ (fieldsOf .wrcmdResult).op = 0x1#4)
      ∧ (∃ r, procedureOf (.wrcfg 0#16) 0x44#7 (twoChecks 3#8) = some r ∧ (fieldsOf (.wrcfg 0#16)).op = 0x7#4)
      ∧ (∃ r, procedureOf .rdword 0x44#7 (twoChecks 0#8) = some r ∧ r.results.err = 0#16)
      ∧ (∃ r, procedureOf .rdword 0x44#7 (neverReady 0#8) = some r ∧ r.results.err ≠ 0#16)
      ∧ (∃ r, procedureOf .regrdResult 0x44#7 (twoChecks 255#8) = some r)
      ∧ (∃ r, procedureOf .rdcfg 0x44#7 (twoChecks 0#8) = some r ∧ r.results.err = 0#16)
      ∧ ∃ r, procedureOf .regrdConfig 0x44#7 (neverReady 0#8) = some r ∧ r.results.err ≠ 0#16 := by
  obtain ⟨r, hr, he⟩ := neverReady_times_out 0x44#7 0#8
  have he0 : r.err ≠ 0#16 := by rw [he]; decide
  exact ⟨⟨_, rfl, rfl⟩, ⟨_, rfl, rfl⟩, ⟨_, rfl, rfl⟩,
    ⟨⟨r.events, ⟨r.word, r.err, 0#27, 0#32, r.polls⟩⟩, by simp only [procedureOf, procRdword, hr, Option.map_some], he0⟩,
    ⟨_, rfl⟩, ⟨_, rfl, rfl⟩,
    ⟨⟨writePhase 0x44#7 [0x01#8] 0#8 ++ r.events, ⟨r.word, r.err, 0#27, 0#32, r.polls⟩⟩,
      by simp only [procedureOf, procRegrd, writeThenRead, hr, Option.map_some]; rfl, he0⟩⟩

theorem witness_BoundedPollTimesOutAtTheCeiling :
    (twoChecks 0#8).counts = [0#8] ++ 2#8 :: [] ∧ [(0#8 : Byte)].length < 250 ∧ (∀ e ∈ [(0#8 : Byte)], e.toNat < 2)
      ∧ 2 ≤ (2#8 : Byte).toNat ∧ (List.replicate 249 (1#8 : Byte)).length < 250
      ∧ (∀ e ∈ List.replicate 249 (1#8 : Byte), e.toNat < 2)
      ∧ 250 ≤ (neverReady 0#8).counts.length ∧ ∀ c ∈ (neverReady 0#8).counts.take 250, c.toNat < 2 := by
  refine ⟨rfl, by decide, by decide, by decide, ?_, ?_, ?_, ?_⟩
  · rw [List.length_replicate]; decide
  · intro e he; rw [List.eq_of_mem_replicate he]; decide
  · rw [neverReady, List.length_replicate]
  · intro c hc; rw [List.eq_of_mem_replicate (List.mem_of_mem_take hc)]; decide

theorem witness_IdentifierReadsBehaveAsRegisterReads : (running 0x7E05#32 .rpoll none).busy = true := by decide

theorem witness_MeasurementOutcomeIsCoherent :
    (∃ r, procedureOf .rdmeasResult 0x44#7 (twoChecks 10#8) = some r ∧ r.results.err ≠ 0#16)
      ∧ ∃ r, procedureOf .rdmeasHighlim 0x44#7 (twoChecks 0#8) = some r ∧ r.results.err = 0#16 :=
  ⟨⟨_, rfl, by decide⟩, ⟨_, rfl, rfl⟩⟩

theorem witness_PollCountTellsTimeoutFromStatusTen :
    (∃ r, procedureOf .regrdResult 0x44#7 (twoChecks 10#8) = some r ∧ r.results.err.toInt = -100)
      ∧ ∃ r, procedureOf .rdword 0x44#7 (neverReady 0#8) = some r ∧ r.results.err.toInt = -100 := by
  obtain ⟨r, hr, he⟩ := neverReady_times_out 0x44#7 0#8
  have he' : r.err.toInt = -100 := by rw [he]; decide
  exact ⟨⟨_, rfl, by decide⟩,
    ⟨⟨r.events, ⟨r.word, r.err, 0#27, 0#32, r.polls⟩⟩, by simp only [procedureOf, procRdword, hr, Option.map_some], he'⟩⟩

theorem witness_LuxF32IsTheNearestBinary32 :
    binary32Finite 0x7F7FFFFF#32 = true ∧ mantOf 0x0001#16 ≠ 0#12 ∧ (centiOf 0x0019#16).toNat % 25 = 0 := by decide

theorem witness_DecoderLawsHold :
    (let s := running 0x8#32 .rread (some (.bytes 0x0A#8 0x64#8))
     s.busy = true ∧ s.seqState = .rread ∧ s.answer = some (.bytes 0x0A#8 0x64#8) ∧ goesOn (exec .rdmeasResult s) = true)
      ∧ expOf 0xFFFE#16 = expOf 0xFFFF#16 ∧ (mantOf 0xFFFE#16).toNat < (mantOf 0xFFFF#16).toNat ∧ (expOf 0xEFFF#16).toNat ≤ 14 := by
  decide

theorem witness_FieldAccessorsReadAndWriteOneField : (0 ≤ 15 ∧ 15 ≤ 15) ∧ (15 ≤ 15 ∧ 15 ≤ 15) ∧ (12 ≤ 15 ∧ 15 ≤ 15) := by decide

end Sys2Proof.Tests
end

section
/-! PROOFS. The words the decoder takes are the legal ones, and it takes each of them as the word of the command it gives
(30_encoding.md R84 to R86). -/

namespace Sys2Proof

@[simp] theorem wordOfCommand_op (c : Command) : (wordOfCommand c).extractLsb' 0 4 = c.op :=
  congrArg Command.op (commandOfWord_wordOfCommand c)

@[simp] theorem wordOfCommand_rsv (c : Command) : (wordOfCommand c).extractLsb' 4 4 = c.rsv :=
  congrArg Command.rsv (commandOfWord_wordOfCommand c)

@[simp] theorem wordOfCommand_ptr (c : Command) : (wordOfCommand c).extractLsb' 8 8 = c.ptr :=
  congrArg Command.ptr (commandOfWord_wordOfCommand c)

@[simp] theorem wordOfCommand_data (c : Command) : (wordOfCommand c).extractLsb' 16 16 = c.data :=
  congrArg Command.data (commandOfWord_wordOfCommand c)

/-! ## The rows of R84 by pointer: which pointers have one, and the fields of the command there -/

theorem wrcmdRow_isSome (p : Byte) : (wrcmdRow p).isSome = Pointer.six.contains p := by revert p; decide

theorem regrdRow_isSome (p : Byte) : (regrdRow p).isSome = Pointer.six.contains p := by revert p; decide

theorem rdidRow_isSome (p : Byte) : (rdidRow p).isSome = [0x7E#8, 0x7F#8].contains p := by revert p; decide

theorem rdmeasRow_isSome (p : Byte) : (rdmeasRow p).isSome = [0x00#8, 0x02#8, 0x03#8].contains p := by revert p; decide

theorem fieldsOf_of_wrcmdRow {p : Byte} {i : Instr} (h : wrcmdRow p = some i) :
    fieldsOf i = ⟨OpCode.wrcmd, 0#4, p, 0#16⟩ := by
  unfold wrcmdRow at h
  split at h <;> cases h <;> rfl

theorem fieldsOf_of_regrdRow {p : Byte} {i : Instr} (h : regrdRow p = some i) :
    fieldsOf i = ⟨OpCode.regrd, 0#4, p, 0#16⟩ := by
  unfold regrdRow at h
  split at h <;> cases h <;> rfl

theorem fieldsOf_of_rdidRow {p : Byte} {i : Instr} (h : rdidRow p = some i) :
    fieldsOf i = ⟨OpCode.rdid, 0#4, p, 0#16⟩ := by
  unfold rdidRow at h
  split at h <;> cases h <;> rfl

theorem fieldsOf_of_rdmeasRow {p : Byte} {i : Instr} (h : rdmeasRow p = some i) :
    fieldsOf i = ⟨OpCode.rdmeas, 0#4, p, 0#16⟩ := by
  unfold rdmeasRow at h
  split at h <;> cases h <;> rfl

/-! ## The decoder by fields -/

@[simp] theorem withoutData_eq_ok_iff (row : Option Instr) (d : Word16) (i : Instr) :
    withoutData row d = .ok i ↔ row = some i ∧ d = 0#16 := by
  cases row with
  | none => simp [withoutData]
  | some j => by_cases hd : d = 0#16 <;> simp [withoutData, hd]

@[simp] theorem withData_eq_ok_iff (fixed p : Byte) (i j : Instr) :
    withData fixed p i = .ok j ↔ p = fixed ∧ i = j := by
  by_cases hp : p = fixed <;> simp [withData, hp]

/-- A command that fields decode to has those fields (R83, R84). -/
theorem fieldsOf_of_decodeFields {op : Op} {p : Byte} {d : Word16} {i : Instr} (h : decodeFields op p d = .ok i) :
    fieldsOf i = ⟨op, 0#4, p, d⟩ := by
  unfold decodeFields at h
  split at h
  case h_1 => obtain ⟨hr, rfl⟩ := (withoutData_eq_ok_iff ..).1 h; exact fieldsOf_of_wrcmdRow hr
  case h_2 => obtain ⟨rfl, rfl⟩ := (withData_eq_ok_iff ..).1 h; rfl
  case h_3 =>
    obtain ⟨hr, rfl⟩ := (withoutData_eq_ok_iff ..).1 h
    obtain ⟨rfl, hi⟩ := Option.ite_none_right_eq_some.1 hr
    cases hi
    rfl
  case h_4 => obtain ⟨hr, rfl⟩ := (withoutData_eq_ok_iff ..).1 h; exact fieldsOf_of_regrdRow hr
  case h_5 => obtain ⟨hr, rfl⟩ := (withoutData_eq_ok_iff ..).1 h; exact fieldsOf_of_rdidRow hr
  case h_6 =>
    obtain ⟨hr, rfl⟩ := (withoutData_eq_ok_iff ..).1 h
    obtain ⟨rfl, hi⟩ := Option.ite_none_right_eq_some.1 hr
    cases hi
    rfl
  case h_7 => obtain ⟨rfl, rfl⟩ := (withData_eq_ok_iff ..).1 h; rfl
  case h_8 => obtain ⟨hr, rfl⟩ := (withoutData_eq_ok_iff ..).1 h; exact fieldsOf_of_rdmeasRow hr
  case h_9 => cases h

/-- With RSV 0, fields decode exactly when their word passes the check of R86. -/
theorem decodes_iff_legal_wordOfCommand (op : Op) (p : Byte) (d : Word16) :
    (∃ i, decodeFields op p d = .ok i) ↔ legal (wordOfCommand ⟨op, 0#4, p, d⟩) = true := by
  simp only [legal, wordOfCommand_op, wordOfCommand_rsv, wordOfCommand_ptr, wordOfCommand_data]
  unfold decodeFields Pointer.config
  split
  case h_9 => simp_all
  all_goals simp [← Option.isSome_iff_exists, wrcmdRow_isSome, regrdRow_isSome, rdidRow_isSome, rdmeasRow_isSome]

/-! ## The decoder by words -/

theorem decode_eq_ok_iff (v : Word32) (i : Instr) :
    decode v = .ok i ↔ v.extractLsb' 4 4 = 0#4
      ∧ decodeFields (v.extractLsb' 0 4) (v.extractLsb' 8 8) (v.extractLsb' 16 16) = .ok i := by
  unfold decode commandOfWord
  by_cases hr : v.extractLsb' 4 4 = 0#4 <;> simp [hr]

/-- A word that decodes is the encoding of the command it decodes to (R86). -/
theorem encode_of_decode {v : Word32} {i : Instr} (h : decode v = .ok i) : encode i = v := by
  obtain ⟨hrsv, hf⟩ := (decode_eq_ok_iff v i).1 h
  have hc : fieldsOf i = commandOfWord v := by rw [fieldsOf_of_decodeFields hf, commandOfWord, hrsv]
  rw [encode, hc, wordOfCommand_commandOfWord]

/-- Exactly the words that pass the check of R86 decode. -/
theorem legal_iff_decodes (v : Word32) : legal v = true ↔ ∃ i, decode v = .ok i := by
  simp only [decode_eq_ok_iff, exists_and_left, decodes_iff_legal_wordOfCommand]
  constructor
  · intro h
    have hrsv : v.extractLsb' 4 4 = 0#4 := by simp_all [legal]
    refine ⟨hrsv, ?_⟩
    rw [← hrsv]
    exact (congrArg legal (wordOfCommand_commandOfWord v)).trans h
  · rintro ⟨hrsv, h⟩
    rw [← hrsv] at h
    exact (congrArg legal (wordOfCommand_commandOfWord v)).symm.trans h

/-- The words that do not pass it are those the decoder rejects (R85). -/
theorem illegal_iff_rejected (v : Word32) : legal v = false ↔ ∃ e, decode v = .error e := by
  rw [← Bool.not_eq_true, legal_iff_decodes]
  cases decode v <;> simp

end Sys2Proof
end

section
/-! PROOFS. The host's accesses to the block's registers, what only a host write or a reset changes, and the statements of
10_state.md about them. -/

namespace Sys2Proof.Machine

/-! ## An access of a whole register (20_memory.md R63) -/

theorem memWrite_aligned {off : Offset} (h : off.extractLsb' 0 2 = 0#2) (v : Word32) (s : State) :
    memWrite off .four v s = writeReg off v s := by
  simp [memWrite, accessDefined, h]

theorem memRead_aligned {off : Offset} (h : off.extractLsb' 0 2 = 0#2) (s : State) :
    memRead off .four s = .next (logRead off s) := by
  simp [memRead, accessDefined, h]

theorem memWrite_cmd (v : Word32) (s : State) : memWrite 0x00#8 .four v s = writeCmd v s :=
  memWrite_aligned (by decide) v s

theorem memWrite_devAddr (v : Word32) (s : State) : memWrite 0x1C#8 .four v s = .next (writeDevAddr v s) :=
  memWrite_aligned (by decide) v s

/-! ## A CMD write, ground by ground in the order of R185 -/

theorem writeCmd_of_busy (v : Word32) {s : State} (hb : s.busy = true) : writeCmd v s = .next (raiseOverrun s) := by
  rw [writeCmd, if_pos hb]

theorem writeCmd_of_no_address (v : Word32) {s : State} (hb : s.busy = false) (hv : s.devValid = false) :
    writeCmd v s = .next (raiseIllegal s) := by
  rw [writeCmd, if_neg (by simp [hb]), if_pos hv]

theorem writeCmd_of_illegal {v : Word32} {s : State} (hb : s.busy = false) (hl : legal v = false) :
    writeCmd v s = .next (raiseIllegal s) := by
  obtain ⟨e, he⟩ := (illegal_iff_rejected v).1 hl
  rw [writeCmd, if_neg (by simp [hb]), he, ite_self]

theorem writeCmd_of_legal {v : Word32} {s : State} (hb : s.busy = false) (hv : s.devValid = true)
    (hl : legal v = true) : writeCmd v s = .next (accept v s) := by
  obtain ⟨i, hi⟩ := (legal_iff_decodes v).1 hl
  rw [writeCmd, if_neg (by simp [hb]), if_neg (by simp [hv]), hi]
  simp only
  rw [exec_of_idle i s hb, issue, if_pos hv, encode_of_decode hi]

/-- An idle block refuses a CMD write on either ground of R183. -/
theorem writeCmd_refused {v : Word32} {s : State} (hb : s.busy = false) (h : s.devValid = false ∨ legal v = false) :
    writeCmd v s = .next (raiseIllegal s) :=
  h.elim (writeCmd_of_no_address v hb) (writeCmd_of_illegal hb)

/-- A CMD write as one chain of checks (R22, R185). -/
theorem writeCmd_eq (v : Word32) (s : State) :
    writeCmd v s =
      if s.busy = true then .next (raiseOverrun s)
      else if s.devValid = false then .next (raiseIllegal s)
      else if legal v = false then .next (raiseIllegal s)
      else .next (accept v s) := by
  split_ifs with hb hv hl
  · exact writeCmd_of_busy v hb
  · exact writeCmd_of_no_address v (by simpa using hb) hv
  · exact writeCmd_of_illegal (by simpa using hb) hl
  · exact writeCmd_of_legal (by simpa using hb) (by simpa using hv) (by simpa using hl)

/-- Settles O10: a CMD write is `writeCmd`, whose branches are the checks of R22 in their order. -/
theorem commandIssueInTheOrderOfChecks : Obligations.CommandIssueInTheOrderOfChecks := by
  unfold Obligations.CommandIssueInTheOrderOfChecks
  refine ⟨fun v s => ?_, fun s => memRead_aligned (by decide) s, rfl⟩
  rw [memWrite_cmd]
  exact writeCmd_eq v s

/-! ## What only a host write or a reset changes -/

/-- The block state that only a host write or a reset changes: LASTCMD, the refusal bits, DEVADDR and the command in flight (R22,
R26, R27, R35, R36). -/
structure HostWritten where
  lastCmd  : Word32
  illegal  : Bool
  overrun  : Bool
  devAddr  : DevAddr
  devValid : Bool
  seqOp    : Op
  seqPtr   : Byte
  seqData  : Word16

def hostWritten (s : State) : HostWritten :=
  ⟨s.lastCmd, s.illegal, s.overrun, s.devAddr, s.devValid, s.seqOp, s.seqPtr, s.seqData⟩

@[simp] theorem hostWritten_emit (e : BusEvent) (s : State) : hostWritten (emit e s) = hostWritten s := rfl
@[simp] theorem hostWritten_takeAnswer (s : State) : hostWritten (takeAnswer s) = hostWritten s := rfl
@[simp] theorem hostWritten_giveAnswer (a : Answer) (s : State) : hostWritten (giveAnswer a s) = hostWritten s := rfl
@[simp] theorem hostWritten_goTo (c : Control) (s : State) : hostWritten (goTo c s) = hostWritten s := rfl
@[simp] theorem hostWritten_setK (k : BitVec 2) (s : State) : hostWritten (setK k s) = hostWritten s := rfl
@[simp] theorem hostWritten_setPolls (n : Byte) (s : State) : hostWritten (setPolls n s) = hostWritten s := rfl
@[simp] theorem hostWritten_setSeqWord (w : Word16) (s : State) : hostWritten (setSeqWord w s) = hostWritten s := rfl
@[simp] theorem hostWritten_complete (w e : Word16) (c : BitVec 27) (f : Word32) (n : Byte) (s : State) :
    hostWritten (complete w e c f n s) = hostWritten s := rfl
@[simp] theorem hostWritten_logRead (off : Offset) (s : State) : hostWritten (logRead off s) = hostWritten s := rfl
@[simp] theorem hostWritten_setProgram (p : List HostAction) (s : State) :
    hostWritten (setProgram p s) = hostWritten s := rfl
@[simp] theorem hostWritten_setSchedule (ts : List Turn) (s : State) :
    hostWritten (setSchedule ts s) = hostWritten s := rfl

theorem hostWritten_finishOf (i : Instr) {w e : Word16} (n : Byte) (s : State) (hw : e ≠ 0#16 → w = 0#16) :
    hostWritten (finishOf i w e n s) = hostWritten s := by
  obtain ⟨w', c, n', h, -⟩ := finishOf_is_complete i w e n s hw
  rw [h, hostWritten_complete]

@[simp] theorem hostWritten_afterWrite (n : Nat) (s : State) : hostWritten (afterWrite n s) = hostWritten s := by
  rw [afterWrite_eq, hostWritten_goTo]

@[simp] theorem hostWritten_afterEnd (st : Byte) (s : State) : hostWritten (afterEnd st s) = hostWritten s := by
  rcases afterEnd_cases st s with ⟨h, -⟩ | ⟨h, -⟩ <;> rw [h]
  · exact hostWritten_complete ..
  · exact hostWritten_goTo ..

@[simp] theorem hostWritten_afterWait (i : Instr) (s : State) :
    hostWritten (afterWait (finishOf i) s) = hostWritten s := by
  unfold afterWait
  split
  · exact hostWritten_finishOf i _ s fun _ => rfl
  · exact hostWritten_goTo ..

/-- No step of the sequencer changes what the host wrote: at each control point it is made of updates that do not. -/
theorem hostWritten_sequencerStep {i : Instr} {s t : State} (h : sequencerStep (finishOf i) s = .next t) :
    hostWritten t = hostWritten s := by
  rcases sequencerStep_cases h with rfl | ⟨-, -, rfl⟩ | ⟨b, -, -, -, rfl⟩ | ⟨st, -, -, rfl⟩ | ⟨-, -, rfl⟩ | ⟨c, -, -, rfl⟩
    | ⟨-, -, rfl⟩ | ⟨b0, b1, -, -, rfl⟩
  case inr.inr.inr.inr.inr.inr.inr =>
    rw [hostWritten_finishOf i _ _ fun h => absurd rfl h]
    simp
  all_goals simp

/-- The host's turn changes it only by a write of a register. -/
theorem hostTurn_keeps_hostWritten_or_writes {s t : State} (h : hostTurn s = .next t) :
    hostWritten t = hostWritten s
      ∨ ∃ off v p, s.program = .write off .four v :: p ∧ writeReg off v (setProgram p s) = .next t := by
  rcases hostTurn_cases h with ⟨-, rfl⟩ | ⟨off, p, rfl⟩ | hw
  · exact .inl rfl
  · exact .inl (by simp)
  · exact .inr hw

/-- A step is a reset, or changes nothing a host writes, or is the host's write of a register. -/
theorem step_resets_or_keeps_hostWritten_or_writes {s t : State} (h : step s = .next t) :
    (∃ ts, s.schedule = .reset :: ts ∧ t = resetBlock (setSchedule ts s))
      ∨ hostWritten t = hostWritten s
      ∨ ∃ ts off v p, s.schedule = .host :: ts ∧ s.program = .write off .four v :: p
          ∧ writeReg off v (setProgram p (setSchedule ts s)) = .next t := by
  rcases step_next_cases h with hr | ⟨ts, hs, hh⟩ | ⟨u, hu, ht⟩
  · exact .inl hr
  · rcases hostTurn_keeps_hostWritten_or_writes hh with hk | ⟨off, v, p, hp, hw⟩
    · exact .inr (.inl hk)
    · exact .inr (.inr ⟨ts, off, v, p, hs, hp, hw⟩)
  · have hus : hostWritten u = hostWritten s := by rcases hu with rfl | ⟨ts, rfl⟩ <;> simp
    rcases ht with rfl | ⟨a, -, -, rfl, -⟩ | ⟨-, i, -, hseq⟩
    · exact .inr (.inl hus)
    · exact .inr (.inl hus)
    · exact .inr (.inl ((hostWritten_sequencerStep hseq).trans hus))

/-! ## DEVADDR -/

/-- A register write never clears VALID (R35). -/
theorem writeReg_keeps_devValid {off : Offset} {v : Word32} {s t : State} (h : writeReg off v s = .next t)
    (hv : s.devValid = true) : t.devValid = true := by
  rcases writeReg_cases h with rfl | ⟨-, rfl⟩ | ⟨-, -, rfl⟩ | ⟨-, -, rfl⟩ | ⟨-, -, -, rfl⟩ | ⟨i, -, -, -, -, rfl⟩ <;>
    simp [hv]

/-- Only a reset clears VALID (R35). -/
theorem step_clears_devValid {s t : State} (h : step s = .next t) (hs : s.devValid = true) (ht : t.devValid = false) :
    ∃ ts, s.schedule = .reset :: ts := by
  rcases step_resets_or_keeps_hostWritten_or_writes h with ⟨ts, hr, -⟩ | hk | ⟨ts, off, v, p, -, -, hw⟩
  · exact ⟨ts, hr⟩
  · have hv : t.devValid = s.devValid := congrArg HostWritten.devValid hk
    simp [hv, hs] at ht
  · simp [writeReg_keeps_devValid hw hs] at ht

theorem outstanding_beginTx {s : State} {a : DevAddr} (h : outstanding s = some (.beginTx a)) : a = s.devAddr := by
  unfold outstanding at h
  split at h <;> simp_all

theorem outstanding_request {s : State} {a : DevAddr} {n : Byte} (h : outstanding s = some (.request a n)) :
    a = s.devAddr := by
  unfold outstanding at h
  split at h <;> simp_all

/-- Settles O15, clause by clause from the lemmas above. -/
theorem devAddrHoldsTheAddressOnceWritten : Obligations.DevAddrHoldsTheAddressOnceWritten := by
  unfold Obligations.DevAddrHoldsTheAddressOnceWritten
  refine ⟨fun s => ⟨devAddrWord_addr s, devAddrWord_reserved s, devAddrWord_valid s⟩, fun v s => ?_, rfl, rfl,
    fun s t => step_clears_devValid, fun s a => outstanding_beginTx, fun s a n => outstanding_request, fun v s hb hv => ?_⟩
  · rw [memWrite_devAddr, writeDevAddr, apply_ite Host.Outcome.next]
    rfl
  · rw [memWrite_cmd]
    exact writeCmd_of_no_address v hb hv

/-! ## The refusal bits -/

theorem writeReg_clears_illegal {off : Offset} {v : Word32} {s t : State} (h : writeReg off v s = .next t)
    (hs : s.illegal = true) (ht : t.illegal = false) : off = 0x04#8 ∧ v.getLsbD 2 = true := by
  rcases writeReg_cases h with rfl | ⟨hoff, rfl⟩ | ⟨-, -, rfl⟩ | ⟨-, -, rfl⟩ | ⟨-, -, -, rfl⟩ | ⟨i, -, -, -, -, rfl⟩ <;>
    simp_all

theorem writeReg_clears_overrun {off : Offset} {v : Word32} {s t : State} (h : writeReg off v s = .next t)
    (hs : s.overrun = true) (ht : t.overrun = false) : off = 0x04#8 ∧ v.getLsbD 3 = true := by
  rcases writeReg_cases h with rfl | ⟨hoff, rfl⟩ | ⟨-, -, rfl⟩ | ⟨-, -, rfl⟩ | ⟨-, -, -, rfl⟩ | ⟨i, -, -, -, -, rfl⟩ <;>
    simp_all

theorem writeReg_sets_illegal {off : Offset} {v : Word32} {s t : State} (h : writeReg off v s = .next t)
    (hs : s.illegal = false) (ht : t.illegal = true) :
    off = 0x00#8 ∧ s.busy = false ∧ (s.devValid = false ∨ legal v = false) := by
  rw [illegal_iff_rejected]
  rcases writeReg_cases h with rfl | ⟨-, rfl⟩ | ⟨-, -, rfl⟩ | ⟨-, -, rfl⟩ | ⟨hoff, hb, hg, -⟩ | ⟨i, -, -, -, -, rfl⟩
  case inr.inr.inr.inr.inl => exact ⟨hoff, hb, hg⟩
  all_goals simp_all

theorem writeReg_sets_overrun {off : Offset} {v : Word32} {s t : State} (h : writeReg off v s = .next t)
    (hs : s.overrun = false) (ht : t.overrun = true) : s.busy = true ∧ (off = 0x00#8 ∨ off = 0x1C#8) := by
  rcases writeReg_cases h with rfl | ⟨-, rfl⟩ | ⟨-, -, rfl⟩ | ⟨hoff, hb, -⟩ | ⟨-, -, -, rfl⟩ | ⟨i, -, -, -, -, rfl⟩
  case inr.inr.inr.inl => exact ⟨hb, hoff⟩
  all_goals simp_all

/-- What clears ILLEGAL is a reset or a STATUS write with bit 2 set (R26). -/
theorem step_clears_illegal {s t : State} (h : step s = .next t) (hs : s.illegal = true) (ht : t.illegal = false) :
    (∃ ts, s.schedule = .reset :: ts)
      ∨ ∃ ts p v, s.schedule = .host :: ts ∧ s.program = .write 0x04#8 .four v :: p ∧ v.getLsbD 2 = true := by
  rcases step_resets_or_keeps_hostWritten_or_writes h with ⟨ts, hr, -⟩ | hk | ⟨ts, off, v, p, hsch, hp, hw⟩
  · exact .inl ⟨ts, hr⟩
  · have hi : t.illegal = s.illegal := congrArg HostWritten.illegal hk
    simp [hi, hs] at ht
  · obtain ⟨rfl, hv⟩ := writeReg_clears_illegal hw hs ht
    exact .inr ⟨ts, p, v, hsch, hp, hv⟩

/-- What clears OVERRUN is a reset or a STATUS write with bit 3 set (R27). -/
theorem step_clears_overrun {s t : State} (h : step s = .next t) (hs : s.overrun = true) (ht : t.overrun = false) :
    (∃ ts, s.schedule = .reset :: ts)
      ∨ ∃ ts p v, s.schedule = .host :: ts ∧ s.program = .write 0x04#8 .four v :: p ∧ v.getLsbD 3 = true := by
  rcases step_resets_or_keeps_hostWritten_or_writes h with ⟨ts, hr, -⟩ | hk | ⟨ts, off, v, p, hsch, hp, hw⟩
  · exact .inl ⟨ts, hr⟩
  · have ho : t.overrun = s.overrun := congrArg HostWritten.overrun hk
    simp [ho, hs] at ht
  · obtain ⟨rfl, hv⟩ := writeReg_clears_overrun hw hs ht
    exact .inr ⟨ts, p, v, hsch, hp, hv⟩

/-- What raises ILLEGAL is a CMD write to an idle block, refused on a ground of R183 (R26). -/
theorem step_sets_illegal {s t : State} (h : step s = .next t) (hs : s.illegal = false) (ht : t.illegal = true) :
    ∃ ts p v, s.schedule = .host :: ts ∧ s.program = .write 0x00#8 .four v :: p ∧ s.busy = false
      ∧ (s.devValid = false ∨ legal v = false) := by
  rcases step_resets_or_keeps_hostWritten_or_writes h with ⟨ts, -, rfl⟩ | hk | ⟨ts, off, v, p, hsch, hp, hw⟩
  · simp at ht
  · have hi : t.illegal = s.illegal := congrArg HostWritten.illegal hk
    simp [hi, hs] at ht
  · obtain ⟨rfl, hb, hg⟩ := writeReg_sets_illegal hw hs ht
    exact ⟨ts, p, v, hsch, hp, hb, hg⟩

/-- What raises OVERRUN is a CMD or DEVADDR write while BUSY = 1 (R27). -/
theorem step_sets_overrun {s t : State} (h : step s = .next t) (hs : s.overrun = false) (ht : t.overrun = true) :
    ∃ ts p v off, s.schedule = .host :: ts ∧ s.program = .write off .four v :: p ∧ s.busy = true
      ∧ (off = 0x00#8 ∨ off = 0x1C#8) := by
  rcases step_resets_or_keeps_hostWritten_or_writes h with ⟨ts, -, rfl⟩ | hk | ⟨ts, off, v, p, hsch, hp, hw⟩
  · simp at ht
  · have ho : t.overrun = s.overrun := congrArg HostWritten.overrun hk
    simp [ho, hs] at ht
  · obtain ⟨hb, hoff⟩ := writeReg_sets_overrun hw hs ht
    exact ⟨ts, p, v, off, hsch, hp, hb, hoff⟩

/-- Settles O46: what a refused write does, and the four lemmas above on what a step that changes a bit must be. -/
theorem refusalBitsStayUntilCleared : Obligations.RefusalBitsStayUntilCleared := by
  unfold Obligations.RefusalBitsStayUntilCleared
  refine ⟨fun v s hb hg => ?_, fun v s hb => ⟨?_, ?_⟩, fun s t h =>
    ⟨step_clears_illegal h, step_clears_overrun h, step_sets_illegal h, step_sets_overrun h⟩⟩
  · exact ⟨_, (memWrite_cmd v s).trans (writeCmd_refused hb hg), rfl⟩
  · exact ⟨_, (memWrite_cmd v s).trans (writeCmd_of_busy v hb), rfl⟩
  · exact ⟨_, (memWrite_devAddr v s).trans (by rw [writeDevAddr, if_pos hb]), rfl⟩

/-! ## STATUS, PARAM and the reset values -/

theorem errF_eq_decide (s : State) : errF s = decide (s.err ≠ 0#16) := by
  by_cases h : s.err = 0#16 <;> simp [errF, h]

/-- The status-10 collision at the flag: a bus fault of status 10 reads as a timeout (R28). -/
theorem tmo_of_errOf_ten {s : State} (h : s.err = errOf 10#8) : tmo s = true := by
  rw [tmo_eq_decide, h, errOf_toInt]
  rfl

/-- Settles O13, bit by bit. -/
theorem statusReadShowsItsBits : Obligations.StatusReadShowsItsBits := by
  unfold Obligations.StatusReadShowsItsBits
  exact fun s => ⟨memRead_aligned (by decide) s, statusWord_busy s, statusWord_done s, statusWord_illegal s,
    statusWord_overrun s, (statusWord_errF s).trans (errF_eq_decide s), (statusWord_tmo s).trans (tmo_eq_decide s),
    statusWord_reserved s, fun h => (statusWord_tmo s).trans (tmo_of_errOf_ten h)⟩

@[simp] theorem readReg_param (s : State) : readReg 0x20#8 s = paramWord := rfl

/-- Settles O17: PARAM reads the constant `paramWord`, and a write to it reaches no register. -/
theorem paramIsHardwired : Obligations.ParamIsHardwired := by
  unfold Obligations.ParamIsHardwired
  intro s
  rw [readReg_param]
  exact ⟨by decide, by decide, by decide, fun v => memWrite_aligned (by decide) v s⟩

/-- The error flags are 0 exactly while ERR is 0, so STATUS reads 0 after reset (R23, R45). -/
theorem statusWord_reset : statusWord State.reset = 0x00000000#32 := by decide

/-- Settles O38: every field is the one the reset state is written with, STATUS and PARAM read as computed. -/
theorem resetLeavesTheListedValues : Obligations.ResetLeavesTheListedValues := by
  unfold Obligations.ResetLeavesTheListedValues
  exact ⟨reset_lastCmd, statusWord_reset, reset_busy, reset_done, reset_illegal, reset_overrun, rfl, rfl, reset_err,
    reset_word, reset_luxCenti, reset_luxF32, reset_pollCnt, reset_devAddr, reset_devValid, rfl, reset_seqState,
    reset_seqOp, reset_seqPtr, reset_seqData, reset_seqK, reset_seqPolls, reset_seqWord⟩

end Sys2Proof.Machine
end

section
/-! PROOFS. Which host accesses are defined, what the reserved offsets do, and the byte order of the wire: the statements of
20_memory.md. -/

namespace Sys2Proof.Machine

/-! ## Defined accesses (20_memory.md R63) -/

theorem aligned_iff (off : Offset) : off.extractLsb' 0 2 = 0#2 ↔ off.toNat % 4 = 0 := by
  simp [← BitVec.toNat_inj, BitVec.extractLsb'_toNat]

theorem accessDefined_iff (off : Offset) (size : AccessSize) :
    accessDefined off size = true ↔ size = .four ∧ off.toNat % 4 = 0 := by
  rw [accessDefined, Bool.and_eq_true, beq_iff_eq, beq_iff_eq, aligned_iff]

theorem memRead_of_undefined {off : Offset} {size : AccessSize} (h : accessDefined off size = false) (s : State) :
    memRead off size s = .refused .undefinedHostAccess := by
  rw [memRead, if_neg (by simp [h])]

theorem memWrite_of_undefined {off : Offset} {size : AccessSize} (h : accessDefined off size = false) (v : Word32)
    (s : State) : memWrite off size v s = .refused .undefinedHostAccess := by
  rw [memWrite, if_neg (by simp [h])]

theorem writeCmd_answers (v : Word32) (s : State) : ∃ t, writeCmd v s = .next t := by
  rw [writeCmd_eq]
  split_ifs <;> exact ⟨_, rfl⟩

/-- A write of a whole register is never refused: the block's refusals are bits of STATUS (R180, R183, R184). -/
theorem writeReg_answers (off : Offset) (v : Word32) (s : State) : ∃ t, writeReg off v s = .next t := by
  unfold writeReg
  split
  case h_1 => exact writeCmd_answers v s
  all_goals exact ⟨_, rfl⟩

/-- Settles O18: `accessDefined` is the condition of R63, and past it a read is logged and a write reaches its register. -/
theorem onlyAlignedWholeAccessesAreDefined : Obligations.OnlyAlignedWholeAccessesAreDefined := by
  unfold Obligations.OnlyAlignedWholeAccessesAreDefined
  intro off size v s
  constructor
  · intro h
    have hu : accessDefined off size = false := by
      rw [← Bool.not_eq_true, accessDefined_iff, not_and_or]
      exact h
    exact ⟨memRead_of_undefined hu s, memWrite_of_undefined hu v s⟩
  · rintro ⟨rfl, h⟩
    have ha := (aligned_iff off).2 h
    obtain ⟨t, ht⟩ := writeReg_answers off v s
    refine ⟨⟨_, memRead_aligned ha s⟩, ?_⟩
    rw [memWrite_aligned ha, ht]
    exact nofun

/-! ## Reserved offsets (20_memory.md R64) -/

theorem readReg_reserved {off : Offset} (h : 0x24 ≤ off.toNat) (s : State) : readReg off s = 0x00000000#32 := by
  unfold readReg
  split
  case h_10 => rfl
  all_goals exact absurd h (by decide)

theorem writeReg_reserved {off : Offset} (h : 0x24 ≤ off.toNat) (v : Word32) (s : State) : writeReg off v s = .next s := by
  unfold writeReg
  split
  case h_4 => rfl
  all_goals exact absurd h (by decide)

/-- Settles O19: the last register is at 0x20, so an aligned access from 0x24 up reaches none. -/
theorem reservedOffsetsReadZeroIgnoreWrites : Obligations.ReservedOffsetsReadZeroIgnoreWrites := by
  unfold Obligations.ReservedOffsetsReadZeroIgnoreWrites
  intro off v s hlow _ h
  have ha := (aligned_iff off).2 h
  rw [memRead_aligned ha, memWrite_aligned ha, logRead, readReg_reserved hlow, writeReg_reserved hlow]
  exact ⟨rfl, rfl⟩

/-! ## Byte order of the wire (20_memory.md R60, R61) -/

/-- The READ hands the assembled word to the command's completion, with no error (R39, R105). -/
theorem sequencerStep_of_read (finish : Word16 → Word16 → Byte → State → State) {s : State} {b0 b1 : Byte}
    (hs : s.seqState = .rread) (ha : s.answer = some (.bytes b0 b1)) :
    sequencerStep finish s = .next (finish (assembleWord b0 b1) 0#16 s.seqPolls
      (setSeqWord (assembleWord b0 b1) (emit (.read Config.readCount b0 b1) (takeAnswer s)))) := by
  simp only [sequencerStep, hs, stepRRead, ha]

/-- A command with a read phase that completes without an error reports the word it read (R108, R109, R140, R141, R143). -/
theorem finishOf_word {i : Instr} (h : hasRead (fieldsOf i).op = true) (w : Word16) (n : Byte) (s : State) :
    (finishOf i w 0#16 n s).word = w := by
  rw [finishOf, if_neg (by simp [h])]
  split_ifs
  · rfl
  · rw [finishMeasurement, if_neg (not_not_intro rfl), complete_word]
  · rw [finishIdentifier, if_neg (not_not_intro rfl), complete_word]

/-- Settles O22: WORD is the assembled word, whose halves are the two bytes in arrival order. -/
theorem readBytesAreAssembledBigEndian : Obligations.ReadBytesAreAssembledBigEndian := by
  unfold Obligations.ReadBytesAreAssembledBigEndian
  refine ⟨fun b0 b1 => ⟨assembleWord_high b0 b1, assembleWord_low b0 b1⟩, fun i s b0 b1 hr hb hs ha => ?_⟩
  refine ⟨_, (exec_of_busy i s hb).trans (sequencerStep_of_read _ hs ha), ?_⟩
  rw [finishOf_word hr]
  exact ⟨assembleWord_high b0 b1, assembleWord_low b0 b1⟩

theorem bytesOf_wrword (ptr : Byte) (d : Word16) :
    bytesOf OpCode.wrword ptr d = [ptr, d.extractLsb' 8 8, d.extractLsb' 0 8] :=
  if_pos (.inl rfl)

theorem bytesOf_wrcfg (ptr : Byte) (d : Word16) :
    bytesOf OpCode.wrcfg ptr d = [ptr, d.extractLsb' 8 8, d.extractLsb' 0 8] :=
  if_pos (.inr rfl)

/-- Settles O23: both write the pointer and the halves of DATA, and the halves assemble to DATA. -/
theorem configurationWriteIsBigEndian : Obligations.ConfigurationWriteIsBigEndian := by
  unfold Obligations.ConfigurationWriteIsBigEndian
  exact fun d => ⟨_, _, bytesOf_wrword 0x01#8 d, bytesOf_wrcfg 0x01#8 d, rfl, rfl, assembleWord_of_halves d⟩

end Sys2Proof.Machine
end

section
/-! PROOFS. The check of R86 by fields, and the statement of 30_encoding.md on the words that fail it. -/

namespace Sys2Proof

/-- Row by row of R84: the check of R86 asks of a word its RSV, its PTR and its DATA, each by OP. -/
theorem legal_iff_fields_allowed (v : Word32) :
    legal v = true ↔ v.extractLsb' 4 4 = 0#4 ∧ v.extractLsb' 8 8 ∈ Command.allowedPtrs (v.extractLsb' 0 4)
      ∧ (v.extractLsb' 16 16 = 0#16 ∨ v.extractLsb' 0 4 = 0x2#4 ∨ v.extractLsb' 0 4 = 0x7#4) := by
  unfold legal Command.allowedPtrs
  generalize v.extractLsb' 0 4 = op, v.extractLsb' 4 4 = rsv, v.extractLsb' 8 8 = p, v.extractLsb' 16 16 = d
  split_ifs with hsix hconfig hrdword hrdid hrdmeas
  · rcases hsix with rfl | rfl <;> simp [OpCode.wrcmd, OpCode.regrd]
  · rcases hconfig with rfl | rfl | rfl <;> simp [OpCode.wrword, OpCode.rdcfg, OpCode.wrcfg, Pointer.config]
  · simp [hrdword, OpCode.rdword]
  · simp [hrdid, OpCode.rdid, Pointer.mfrid, Pointer.devid]
  · simp [hrdmeas, OpCode.rdmeas, Pointer.result, Pointer.lowlim, Pointer.highlim]
  · simp_all [OpCode.wrcmd, OpCode.regrd, OpCode.wrword, OpCode.rdcfg, OpCode.wrcfg, OpCode.rdword, OpCode.rdid,
      OpCode.rdmeas]

/-- A reserved OP has no row in R84. -/
theorem allowedPtrs_of_reserved {op : Op} (h : op = 0#4 ∨ 9 ≤ op.toNat) : Command.allowedPtrs op = [] := by
  revert op
  decide

/-- The negation of the check of R86, with the reserved OPs, which have no pointer, told apart (R85). -/
theorem illegal_iff_four_grounds (v : Word32) :
    legal v = false ↔
      (v.extractLsb' 0 4 = 0#4 ∨ 9 ≤ (v.extractLsb' 0 4).toNat)
        ∨ v.extractLsb' 4 4 ≠ 0#4
        ∨ v.extractLsb' 8 8 ∉ Command.allowedPtrs (v.extractLsb' 0 4)
        ∨ (v.extractLsb' 16 16 ≠ 0#16 ∧ v.extractLsb' 0 4 ≠ 0x2#4 ∧ v.extractLsb' 0 4 ≠ 0x7#4) := by
  have hreserved : (v.extractLsb' 0 4 = 0#4 ∨ 9 ≤ (v.extractLsb' 0 4).toNat) →
      v.extractLsb' 8 8 ∉ Command.allowedPtrs (v.extractLsb' 0 4) := fun h => by simp [allowedPtrs_of_reserved h]
  rw [← Bool.not_eq_true, legal_iff_fields_allowed, not_and_or, not_and_or, not_or, not_or]
  exact (or_iff_right_of_imp fun h => .inr (.inl (hreserved h))).symm

end Sys2Proof

namespace Sys2Proof.Machine

/-- Settles O4: the four grounds are the ways to fail the check of R86, and an idle block refuses a word that fails it. -/
theorem illegalWordsAreThoseOfTheFourGrounds : Obligations.IllegalWordsAreThoseOfTheFourGrounds := by
  unfold Obligations.IllegalWordsAreThoseOfTheFourGrounds
  exact ⟨illegal_iff_four_grounds, fun v s hb hl => (memWrite_cmd v s).trans (writeCmd_of_illegal hb hl)⟩

end Sys2Proof.Machine
end

section
/-! PROOFS. The statements of 40_bus_transaction.md on the bytes of the write phase (R100) and on the error of an end status
(R102). -/

namespace Sys2Proof.Machine

/-! ## The write phase: its bytes and which commands have it (R100) -/

/-- The two commands that write a word write CONFIG (R84). -/
theorem fieldsOf_ptr_of_word_written {i : Instr} (h : (fieldsOf i).op = 0x2#4 ∨ (fieldsOf i).op = 0x7#4) :
    (fieldsOf i).ptr = 0x01#8 := by
  cases i with
  | wrwordConfig d => rfl
  | wrcfg d => rfl
  | _ => exact absurd h (by decide)

theorem fieldsOf_op_eq_rdword_iff (i : Instr) : (fieldsOf i).op = OpCode.rdword ↔ i = .rdword := by
  cases i with
  | rdword => exact iff_of_true rfl rfl
  | _ => exact iff_of_false (by simp [fieldsOf, OpCode.rdword, OpCode.wrcmd, OpCode.wrword, OpCode.regrd, OpCode.rdid,
      OpCode.rdcfg, OpCode.wrcfg, OpCode.rdmeas]) nofun

/-- An idle, addressed block accepts every command (R22). -/
theorem exec_of_idle_addressed (i : Instr) {s : State} (hb : s.busy = false) (hv : s.devValid = true) :
    exec i s = .next (accept (encode i) s) := by
  rw [exec_of_idle i s hb, issue, if_pos hv]

theorem accept_encode_seqState (i : Instr) (s : State) :
    (accept (encode i) s).seqState = if i = .rdword then .rreq else .wbegin := by
  rw [accept_seqState, encode_op, entryState]
  exact if_congr (fieldsOf_op_eq_rdword_iff i) rfl rfl

theorem finishOf_seqState (i : Instr) {w e : Word16} (n : Byte) (s : State) (hw : e ≠ 0#16 → w = 0#16) :
    (finishOf i w e n s).seqState = .idle := by
  obtain ⟨w', c, n', hfin, -⟩ := finishOf_is_complete i w e n s hw
  rw [hfin, complete_seqState]

theorem afterWait_seqState (i : Instr) (s : State) :
    (afterWait (finishOf i) s).seqState = .idle ∨ (afterWait (finishOf i) s).seqState = .rpoll := by
  unfold afterWait
  split_ifs
  · exact .inl (finishOf_seqState i _ s fun _ => rfl)
  · exact .inr rfl

/-- Only an accepted issue leads into the write phase: no step of the sequencer enters it from outside (R38, R39). -/
theorem sequencerStep_enters_no_write_phase {i : Instr} {s t : State} (h : sequencerStep (finishOf i) s = .next t)
    (hs : inWritePhase s.seqState = false) : inWritePhase t.seqState = false := by
  rcases sequencerStep_cases h with rfl | ⟨hc, -⟩ | ⟨b, hc, -⟩ | ⟨st, hc, -⟩ | ⟨-, -, rfl⟩ | ⟨c, -, -, rfl⟩ | ⟨-, -, rfl⟩
      | ⟨b0, b1, -, -, rfl⟩
  · exact hs
  · rw [hc] at hs; cases hs
  · rw [hc] at hs; cases hs
  · rw [hc] at hs; cases hs
  · rfl
  · rw [goTo_seqState]; split_ifs <;> rfl
  · rcases afterWait_seqState i _ with ht | ht <;> rw [ht] <;> rfl
  · rw [finishOf_seqState i _ _ fun he => absurd rfl he]; rfl

theorem outstanding_of_wbyte {s : State} (h : s.seqState = .wbyte) :
    outstanding s = ((bytesOf s.seqOp s.seqPtr s.seqData)[s.seqK.toNat]?).map .write := by
  rw [outstanding, h]

/-- Settles O24: the bytes by OP, the entry of every command by its OP, and no entry into the write phase afterwards. -/
theorem bytesOfTheWritePhase : Obligations.BytesOfTheWritePhase := by
  unfold Obligations.BytesOfTheWritePhase
  refine ⟨fun i => ?_, fun i s hb hv => ⟨_, exec_of_idle_addressed i hb hv, accept_encode_seqState i s⟩,
    fun s t hb hs h => sequencerStep_enters_no_write_phase (exec_of_busy .rdword s hb ▸ h) hs,
    fun s => outstanding_of_wbyte⟩
  dsimp only
  split_ifs with hword
  · exact ⟨fieldsOf_ptr_of_word_written hword, if_pos hword⟩
  · exact if_neg hword

/-! ## The error of an end status (R102) -/

/-- No two end statuses give the same error. -/
theorem errOf_inj {a b : Byte} : errOf a = errOf b ↔ a = b := by
  rw [← BitVec.toInt_inj, errOf_toInt, errOf_toInt, ← BitVec.toNat_inj]
  omega

/-- The one collision: the timeout code is the error of end status 10. -/
theorem errOf_ten : errOf 10#8 = Config.timeoutCode := by decide

/-- Settles O25: the error is the exact product, so distinct statuses have distinct errors. -/
theorem errorIsMinusTenTimesStatus : Obligations.ErrorIsMinusTenTimesStatus := by
  unfold Obligations.ErrorIsMinusTenTimesStatus
  intro st
  have hst := st.isLt
  refine ⟨errOf_toInt st, ?_, ?_, errOf_eq_zero_iff st, ?_⟩
  · rw [errOf_toInt]; omega
  · rw [errOf_toInt]; omega
  · rw [← errOf_ten, errOf_inj]

end Sys2Proof.Machine
end

section
/-! PROOFS. The lux decoder's fields, its exact value and its laws: the statements of 41_register_value.md R144, R145 and R148. -/

namespace Sys2Proof.Machine

/-! ## The fields of a result word (R144) -/

theorem expOf_append_mantOf (w : Word16) : expOf w ++ mantOf w = w := by
  apply BitVec.eq_of_toNat_eq
  rw [BitVec.toNat_append, ← Nat.shiftLeft_add_eq_or_of_lt (mantOf w).isLt, Nat.shiftLeft_eq, expOf_toNat, mantOf_toNat]
  exact Nat.div_add_mod' w.toNat 4096

/-- Settles O55: both fields are slices of the word, which are a quotient and a remainder and cover it. -/
theorem resultWordFields : Obligations.ResultWordFields := by
  unfold Obligations.ResultWordFields
  exact fun w => ⟨expOf_toNat w, mantOf_toNat w, expOf_append_mantOf w⟩

/-! ## The exact value (R145) -/

/-- `centi` is lux in hundredths, without rounding (R146). -/
theorem luxOf_eq_centiNat_div (w : Word16) : luxOf w = (centiNat w : ℚ) / 100 := by
  rw [luxOf, centiNat, Nat.shiftLeft_eq]
  push_cast
  rfl

theorem luxOf_nonneg (w : Word16) : 0 ≤ luxOf w := by
  rw [luxOf_eq_centiNat_div]
  positivity

theorem luxOf_le (w : Word16) : luxOf w ≤ 13418496 / 10 := by
  have hc : (centiNat w : ℚ) ≤ 134184960 := by exact_mod_cast centiNat_le w
  rw [luxOf_eq_centiNat_div]
  linarith

/-- Settles O56: the two products are the definition regrouped, and the range is that of `centi`. -/
theorem luxIsTheExactRational : Obligations.LuxIsTheExactRational := by
  unfold Obligations.LuxIsTheExactRational
  intro w
  refine ⟨?_, rfl, luxOf_nonneg w, luxOf_le w⟩
  rw [luxOf]
  ring

/-! ## Rounding to the nearest hundred -/

/-- The quotient is within a half of the exact one, and even where it is a half away. -/
theorem roundDivEven_hundred_spec (n : Nat) :
    100 * roundDivEven n 100 ≤ n + 50 ∧ n ≤ 100 * roundDivEven n 100 + 50
      ∧ (100 * roundDivEven n 100 = n + 50 ∨ n = 100 * roundDivEven n 100 + 50 → roundDivEven n 100 % 2 = 0) := by
  simp only [roundDivEven]
  split <;> omega

/-- Rounding is monotone: two numbers rounded in opposite directions to neighbours would both be ties, with one result odd. -/
theorem roundDivEven_hundred_mono {a b : Nat} (h : a ≤ b) : roundDivEven a 100 ≤ roundDivEven b 100 := by
  have ha := roundDivEven_hundred_spec a
  have hb := roundDivEven_hundred_spec b
  omega

/-! ## The binary32 of a number of hundredths (R147) -/

/-- The `j` of `f32OfCenti`: `n / 100` lies from `2^(j-7)` up to `2^(j-6)`. -/
def centiBinade (n : Nat) : Nat := (n * 128 / 100).log2

/-- The 24-bit significand of `f32OfCenti`. -/
def centiSignificand (n : Nat) : Nat := roundDivEven (n * 2 ^ (30 - centiBinade n)) 100

theorem f32OfCenti_of_ne_zero {n : Nat} (hn : n ≠ 0) :
    f32OfCenti n = BitVec.ofNat 32 ((centiBinade n + 119) * 2 ^ 23 + centiSignificand n) :=
  if_neg hn

@[simp] theorem centiSignificand_zero : centiSignificand 0 = 0 := by
  rw [centiSignificand, Nat.zero_mul]
  rfl

theorem centiBinade_eq_iff {n : Nat} (hn : n ≠ 0) (j : Nat) :
    centiBinade n = j ↔ 2 ^ j * 100 ≤ n * 128 ∧ n * 128 < 2 ^ (j + 1) * 100 := by
  rw [centiBinade, Nat.log2_eq_iff (by omega), Nat.le_div_iff_mul_le (by norm_num), Nat.div_lt_iff_lt_mul (by norm_num)]

theorem centiBinade_mono {a b : Nat} (h : a ≤ b) : centiBinade a ≤ centiBinade b := by
  simp only [centiBinade, Nat.log2_eq_log_two]
  exact Nat.log_mono_right (Nat.div_le_div_right (Nat.mul_le_mul_right 128 h))

/-- A value of 27 bits has its binade below 2^21, so that scaling by `2^(30-j)` is exact. -/
theorem centiBinade_lt {n : Nat} (h : n < 2 ^ 27) : centiBinade n < 28 := by
  have hmax : centiBinade (2 ^ 27) = 27 := (centiBinade_eq_iff (by norm_num) 27).2 (by norm_num)
  have := centiBinade_mono h.le
  omega

theorem centiBinade_two_mul {n : Nat} (hn : n ≠ 0) : centiBinade (2 * n) = centiBinade n + 1 := by
  obtain ⟨hlo, hhi⟩ := (centiBinade_eq_iff hn _).1 rfl
  rw [centiBinade_eq_iff (by omega)]
  simp only [pow_succ] at hhi ⊢
  omega

/-- The scaling undoes the doubling. -/
theorem centiSignificand_two_mul {n : Nat} (hn : n ≠ 0) (h : n < 2 ^ 27) :
    centiSignificand (2 * n) = centiSignificand n := by
  have hj := centiBinade_lt h
  have hs : 30 - centiBinade n = 30 - (centiBinade n + 1) + 1 := by omega
  rw [centiSignificand, centiSignificand, centiBinade_two_mul hn, hs, pow_succ]
  congr 1
  ring

/-- The significand has 24 bits, or has rounded up to 2^24. -/
theorem centiSignificand_bounds {n : Nat} (hn : n ≠ 0) (h : n < 2 ^ 27) :
    2 ^ 23 ≤ centiSignificand n ∧ centiSignificand n ≤ 2 ^ 24 := by
  obtain ⟨hlo, hhi⟩ := (centiBinade_eq_iff hn _).1 rfl
  have hj := centiBinade_lt h
  have hp : 2 ^ centiBinade n * 2 ^ (30 - centiBinade n) = 2 ^ 30 := by
    rw [← pow_add]
    congr 1
    omega
  have hslo : 2 ^ 23 * 100 ≤ n * 2 ^ (30 - centiBinade n) := by
    have := Nat.mul_le_mul_right (2 ^ (30 - centiBinade n)) hlo
    linarith
  have hshi : n * 2 ^ (30 - centiBinade n) ≤ 2 ^ 24 * 100 := by
    have := Nat.mul_le_mul_right (2 ^ (30 - centiBinade n)) hhi.le
    rw [pow_succ] at this
    linarith
  have hr := roundDivEven_hundred_spec (n * 2 ^ (30 - centiBinade n))
  rw [← centiSignificand] at hr
  omega

/-- The scaled significands are in the order of the numbers: within a binade because rounding is monotone, and across binades
because the lower one's significand is at most 2^24 and the higher one's at least 2^23. -/
theorem centiSignificand_scaled_mono {a b : Nat} (hab : a ≤ b) (hb : b < 2 ^ 27) :
    centiSignificand a * 2 ^ centiBinade a ≤ centiSignificand b * 2 ^ centiBinade b := by
  rcases Nat.eq_zero_or_pos a with rfl | ha
  · simp
  rcases (centiBinade_mono hab).eq_or_lt with hj | hj
  · rw [← hj, centiSignificand, centiSignificand, ← hj]
    exact Nat.mul_le_mul_right _ (roundDivEven_hundred_mono (Nat.mul_le_mul_right _ hab))
  · calc centiSignificand a * 2 ^ centiBinade a
        ≤ 2 ^ 24 * 2 ^ centiBinade a := Nat.mul_le_mul_right _ (centiSignificand_bounds (by omega) (by omega)).2
      _ = 2 ^ 23 * 2 ^ (centiBinade a + 1) := by ring
      _ ≤ 2 ^ 23 * 2 ^ centiBinade b := Nat.mul_le_mul_left _ (Nat.pow_le_pow_right (by norm_num) hj)
      _ ≤ centiSignificand b * 2 ^ centiBinade b :=
        Nat.mul_le_mul_right _ (centiSignificand_bounds (by omega) hb).1

/-! ## The value a binary32 has (R7) -/

/-- A normal, positive binary32 written by its fields. -/
theorem binary32Value_of_fields {e f : Nat} (hpos : 0 < e) (he : e < 256) (hf : f < 2 ^ 23) :
    binary32Value (BitVec.ofNat 32 (e * 2 ^ 23 + f)) = ((2 ^ 23 + f : ℕ) : ℚ) * 2 ^ e / 2 ^ 150 := by
  have hexp : ((BitVec.ofNat 32 (e * 2 ^ 23 + f)).extractLsb' 23 8).toNat = e := by
    rw [BitVec.extractLsb'_toNat, BitVec.toNat_ofNat, Nat.shiftRight_eq_div_pow]
    omega
  have hfrac : ((BitVec.ofNat 32 (e * 2 ^ 23 + f)).extractLsb' 0 23).toNat = f := by
    rw [BitVec.extractLsb'_toNat, BitVec.toNat_ofNat, Nat.shiftRight_zero]
    omega
  have hsign : (BitVec.ofNat 32 (e * 2 ^ 23 + f)).getLsbD 31 = false := by
    rw [BitVec.getLsbD_ofNat, Nat.testBit_lt_two_pow (by omega), Bool.and_false]
  simp only [binary32Value, hexp, hfrac, hsign, if_neg hpos.ne', Bool.false_eq_true, if_false]

/-- A significand that has rounded up to 2^24 carries into the exponent, and the value is the same product. -/
theorem binary32Value_of_significand {k m : Nat} (hk : k < 254) (hlo : 2 ^ 23 ≤ m) (hhi : m ≤ 2 ^ 24) :
    binary32Value (BitVec.ofNat 32 (k * 2 ^ 23 + m)) = (m : ℚ) * 2 ^ (k + 1) / 2 ^ 150 := by
  rcases hhi.eq_or_lt with rfl | hm
  · rw [show k * 2 ^ 23 + 2 ^ 24 = (k + 2) * 2 ^ 23 + 0 by ring, binary32Value_of_fields (by omega) (by omega) (by norm_num)]
    push_cast
    ring
  · rw [show k * 2 ^ 23 + m = (k + 1) * 2 ^ 23 + (m - 2 ^ 23) by omega,
      binary32Value_of_fields (by omega) (by omega) (by omega), Nat.add_sub_cancel' hlo]

/-- The value of LUX_F32 for every LUX_CENTI. -/
theorem binary32Value_f32OfCenti {n : Nat} (h : n < 2 ^ 27) :
    binary32Value (f32OfCenti n) = ((centiSignificand n * 2 ^ centiBinade n : ℕ) : ℚ) / 2 ^ 30 := by
  rcases eq_or_ne n 0 with rfl | hn
  · simp [f32OfCenti, binary32Value]
  · obtain ⟨hlo, hhi⟩ := centiSignificand_bounds hn h
    have hj := centiBinade_lt h
    rw [f32OfCenti_of_ne_zero hn, binary32Value_of_significand (by omega) hlo hhi]
    push_cast
    ring

theorem binary32Value_f32OfCenti_mono {a b : Nat} (hab : a ≤ b) (hb : b < 2 ^ 27) :
    binary32Value (f32OfCenti a) ≤ binary32Value (f32OfCenti b) := by
  rw [binary32Value_f32OfCenti (hab.trans_lt hb), binary32Value_f32OfCenti hb]
  gcongr ?_ / _
  exact_mod_cast centiSignificand_scaled_mono hab hb

theorem binary32Value_f32OfCenti_two_mul {n : Nat} (h : 2 * n < 2 ^ 27) :
    binary32Value (f32OfCenti (2 * n)) = 2 * binary32Value (f32OfCenti n) := by
  have hn27 : n < 2 ^ 27 := by omega
  rw [binary32Value_f32OfCenti h, binary32Value_f32OfCenti hn27]
  rcases eq_or_ne n 0 with rfl | hn
  · simp
  · rw [centiSignificand_two_mul hn hn27, centiBinade_two_mul hn]
    push_cast
    ring

/-! ## The decoder's laws (R148) -/

theorem centiNat_lt_two_pow (w : Word16) : centiNat w < 2 ^ 27 :=
  (centiNat_le w).trans_lt (by norm_num)

theorem centiNat_lt_of_mantOf_lt {w w' : Word16} (he : expOf w = expOf w') (hm : (mantOf w).toNat < (mantOf w').toNat) :
    centiNat w < centiNat w' := by
  rw [centiNat, centiNat, he, Nat.shiftLeft_eq, Nat.shiftLeft_eq]
  exact Nat.mul_lt_mul_of_pos_right hm (by positivity)

/-- Adding 0x1000 to a word whose EXP is not the largest adds one to EXP and leaves MANT. -/
theorem centiNat_of_next_exp {w : Word16} (h : (expOf w).toNat ≤ 14) : centiNat (w + 0x1000#16) = 2 * centiNat w := by
  rw [expOf_toNat] at h
  have hw : (w + 0x1000#16).toNat = w.toNat + 4096 := by
    rw [BitVec.toNat_add, BitVec.toNat_ofNat]
    omega
  rw [centiNat_eq, centiNat_eq, hw, Nat.add_mod_right, Nat.add_div_right _ (by norm_num), pow_succ]
  ring

theorem finishOf_rdmeas {i : Instr} (h : i ∈ [Instr.rdmeasResult, .rdmeasLowlim, .rdmeasHighlim]) :
    finishOf i = finishMeasurement := by
  simp only [List.mem_cons, List.not_mem_nil, or_false] at h
  rcases h with rfl | rfl | rfl <;> rfl

/-- The READ of RDMEAS sets both lux registers from its two bytes alone (R143). -/
theorem lux_of_rdmeas_read {i : Instr} {s t : State} {b0 b1 : Byte}
    (hi : i ∈ [Instr.rdmeasResult, .rdmeasLowlim, .rdmeasHighlim]) (hb : s.busy = true) (hs : s.seqState = .rread)
    (ha : s.answer = some (.bytes b0 b1)) (h : exec i s = .next t) :
    t.luxCenti = centiOf (assembleWord b0 b1) ∧ t.luxF32 = f32Of (assembleWord b0 b1) := by
  rw [exec_of_busy i s hb, sequencerStep_of_read _ hs ha, finishOf_rdmeas hi, finishMeasurement,
    if_neg (not_not_intro rfl)] at h
  cases h
  exact ⟨complete_luxCenti .., complete_luxF32 ..⟩

/-- Settles O59: the READ decodes the bytes alone, MANT orders `centi` and rounding keeps the order, and a step of EXP doubles
`centi`, which moves the binade and keeps the significand. -/
theorem decoderLawsHold : Obligations.DecoderLawsHold := by
  unfold Obligations.DecoderLawsHold
  simp only [centiOf_toNat]
  refine ⟨?_, fun w w' he hm => ?_, fun w h => ?_, by decide, by decide⟩
  · intro s s' t t' b0 b1 i i' hi hi' hb hb' hs hs' ha ha' ht ht'
    obtain ⟨hc, hf⟩ := lux_of_rdmeas_read hi hb hs ha ht
    obtain ⟨hc', hf'⟩ := lux_of_rdmeas_read hi' hb' hs' ha' ht'
    exact ⟨hc.trans hc'.symm, hf.trans hf'.symm⟩
  · have hlt := centiNat_lt_of_mantOf_lt he hm
    exact ⟨hlt, binary32Value_f32OfCenti_mono hlt.le (centiNat_lt_two_pow w')⟩
  · have h2 := centiNat_of_next_exp h
    refine ⟨h2, ?_⟩
    rw [f32Of, f32Of, h2]
    exact binary32Value_f32OfCenti_two_mul (h2 ▸ centiNat_lt_two_pow _)

end Sys2Proof.Machine
end

section
/-! PROOFS. The refusals of 60_exceptions.md: an illegal command issue (R183) and a write while BUSY = 1 (R184). -/

namespace Sys2Proof.Machine

/-- Settles O11: a CMD write is `writeCmd`, which answers either ground of R183 by raising ILLEGAL alone. -/
theorem illegalRefusalOnlySetsItsBit : Obligations.IllegalRefusalOnlySetsItsBit := by
  unfold Obligations.IllegalRefusalOnlySetsItsBit
  exact fun v s hb h => (memWrite_cmd v s).trans (writeCmd_refused hb h)

theorem writeDevAddr_of_busy (v : Word32) {s : State} (hb : s.busy = true) : writeDevAddr v s = raiseOverrun s := by
  rw [writeDevAddr, if_pos hb]

/-- Settles O12: each of the two writes checks BUSY first and then raises OVERRUN alone. -/
theorem writeWhileBusyOnlySetsOverrun : Obligations.WriteWhileBusyOnlySetsOverrun := by
  unfold Obligations.WriteWhileBusyOnlySetsOverrun
  intro v s hb
  constructor
  · exact (memWrite_cmd v s).trans (writeCmd_of_busy v hb)
  · exact (memWrite_devAddr v s).trans (congrArg Host.Outcome.next (writeDevAddr_of_busy v hb))

end Sys2Proof.Machine
end

section
/-! PROOFS. The statements of 30_encoding.md on the round trip of a command, the number of legal words, the sample words and the
assembler's words. -/

namespace Sys2Proof

/-! ## The round trip (R80, R83, R84) -/

/-- Every row of R84 is found again by its OP, its PTR and its DATA. -/
theorem decodeFields_fieldsOf (i : Instr) :
    decodeFields (fieldsOf i).op (fieldsOf i).ptr (fieldsOf i).data = .ok i := by
  cases i <;> rfl

@[simp] theorem decode_encode (i : Instr) : decode (encode i) = .ok i := by
  rw [decode, encode, commandOfWord_wordOfCommand]
  simp only [fieldsOf_rsv, if_true]
  exact decodeFields_fieldsOf i

/-- Settles O1: an encoding's fields are the command's, and the decoder finds the command by its fields. -/
theorem decodeOfEncodeIsTheCommand : Obligations.DecodeOfEncodeIsTheCommand := by
  unfold Obligations.DecodeOfEncodeIsTheCommand
  exact decode_encode

/-- Settles O2, from the two facts about the decoder by words. -/
theorem legalWordsAreTheEncodings : Obligations.LegalWordsAreTheEncodings := by
  unfold Obligations.LegalWordsAreTheEncodings
  exact ⟨fun _ _ => encode_of_decode, legal_iff_decodes⟩

/-! ## Counting the legal words (R86) -/

theorem encode_injective : Function.Injective encode := fun i j h => by
  have hd : decode (encode i) = decode (encode j) := congrArg decode h
  rw [decode_encode, decode_encode] at hd
  exact Except.ok.inj hd

/-- The legal words are the encodings. -/
theorem legal_iff_encoding (v : Word32) : legal v = true ↔ ∃ i, encode i = v := by
  rw [legal_iff_decodes]
  constructor
  · rintro ⟨i, hi⟩
    exact ⟨i, encode_of_decode hi⟩
  · rintro ⟨i, rfl⟩
    exact ⟨i, decode_encode i⟩

/-- The commands whose DATA must be 0. -/
def commandsWithoutData : List Instr :=
  [.wrcmdResult, .wrcmdConfig, .wrcmdLowlim, .wrcmdHighlim, .wrcmdMfrid, .wrcmdDevid, .rdword,
    .regrdResult, .regrdConfig, .regrdLowlim, .regrdHighlim, .regrdMfrid, .regrdDevid, .rdidMfrid, .rdidDevid, .rdcfg,
    .rdmeasResult, .rdmeasLowlim, .rdmeasHighlim]

/-- Every DATA a WRWORD or WRCFG can have. -/
def dataValues : List Word16 := (List.finRange (2 ^ 16)).map BitVec.ofFin

theorem dataValues_length : dataValues.length = 65536 := by
  rw [dataValues, List.length_map, List.length_finRange]

theorem dataValues_nodup : dataValues.Nodup :=
  (List.nodup_finRange _).map fun _ _ h => BitVec.ofFin.inj h

theorem mem_dataValues (d : Word16) : d ∈ dataValues :=
  List.mem_map.2 ⟨d.toFin, List.mem_finRange _, rfl⟩

/-- Every command of the block, once. -/
def allCommands : List Instr :=
  commandsWithoutData ++ (dataValues.map .wrwordConfig ++ dataValues.map .wrcfg)

theorem mem_allCommands (i : Instr) : i ∈ allCommands := by
  simp only [allCommands, List.mem_append, List.mem_map]
  cases i with
  | wrwordConfig d => exact .inr (.inl ⟨d, mem_dataValues d, rfl⟩)
  | wrcfg d => exact .inr (.inr ⟨d, mem_dataValues d, rfl⟩)
  | _ => exact .inl (by decide)

theorem allCommands_length : allCommands.length = 131091 := by
  simp only [allCommands, List.length_append, List.length_map, dataValues_length]
  rfl

theorem dataCommand_notMem_commandsWithoutData (d : Word16) :
    Instr.wrwordConfig d ∉ commandsWithoutData ∧ Instr.wrcfg d ∉ commandsWithoutData := by
  simp [commandsWithoutData]

theorem allCommands_nodup : allCommands.Nodup := by
  have hw : (dataValues.map Instr.wrwordConfig).Nodup := dataValues_nodup.map fun _ _ h => Instr.wrwordConfig.inj h
  have hc : (dataValues.map Instr.wrcfg).Nodup := dataValues_nodup.map fun _ _ h => Instr.wrcfg.inj h
  refine List.nodup_append'.2 ⟨by decide, List.nodup_append'.2 ⟨hw, hc, ?_⟩, ?_⟩
  · intro i h1 h2
    obtain ⟨d, -, rfl⟩ := List.mem_map.1 h1
    obtain ⟨e, -, h⟩ := List.mem_map.1 h2
    cases h
  · intro i h1 h2
    rcases List.mem_append.1 h2 with h | h <;> obtain ⟨d, -, rfl⟩ := List.mem_map.1 h
    · exact (dataCommand_notMem_commandsWithoutData d).1 h1
    · exact (dataCommand_notMem_commandsWithoutData d).2 h1

/-- Settles O3: the encodings of all commands, 19 without DATA and two with each of the 65,536. -/
theorem legalWordsNumber131091 : Obligations.LegalWordsNumber131091 := by
  unfold Obligations.LegalWordsNumber131091
  refine ⟨allCommands.map encode, allCommands_nodup.map encode_injective, ?_, fun v => ?_⟩
  · rw [List.length_map, allCommands_length]
  · rw [legal_iff_encoding, List.mem_map]
    exact exists_congr fun i => and_iff_right (mem_allCommands i)

/-! ## The sample words (R90) -/

theorem decodeTableWord_eq_none_of_illegal {v : Word32} (h : legal v = false) : decodeTableWord 32 v.toNat = none := by
  obtain ⟨e, he⟩ := (illegal_iff_rejected v).1 h
  have hv : BitVec.ofNat 32 (v.toNat % 2 ^ 32) = v := by
    rw [Nat.mod_eq_of_lt v.isLt, BitVec.ofNat_toNat, BitVec.setWidth_eq]
  rw [decodeTableWord, hv, he]

/-- Settles O5: the decoder and the check of R86 run on the words listed. -/
theorem sampleWordsDecodeAsListed : Obligations.SampleWordsDecodeAsListed := by
  unfold Obligations.SampleWordsDecodeAsListed
  refine ⟨rfl, rfl, rfl, rfl, rfl, rfl, rfl, rfl, rfl, fun v hv => ?_⟩
  have hl : legal v = false := by
    simp only [List.mem_cons, List.not_mem_nil, or_false] at hv
    rcases hv with rfl | rfl | rfl | rfl | rfl | rfl | rfl | rfl <;> rfl
  exact ⟨hl, decodeTableWord_eq_none_of_illegal hl⟩

/-! ## The assembler's words (R88) -/

/-- The fields of R80 shifted to their places and joined are the command word. -/
theorem wordOfCommand_eq_or (op : Op) (p : Byte) (d : Word16) :
    wordOfCommand ⟨op, 0#4, p, d⟩ = (d.zeroExtend 32 <<< 16) ||| ((p.zeroExtend 32 <<< 8) ||| op.zeroExtend 32) := by
  apply BitVec.eq_of_getLsbD_eq
  intro n hn
  simp only [wordOfCommand_getLsbD, BitVec.getLsbD_or, BitVec.getLsbD_shiftLeft, BitVec.truncate_eq_setWidth,
    BitVec.getLsbD_setWidth, hn]
  split_ifs with h4 h8 h16
  · simp [h4, show n < 8 by omega, show n < 16 by omega]
  · simp [h8, show n < 16 by omega, BitVec.getLsbD_of_ge op n (by omega)]
  · simp [h8, h16, BitVec.getLsbD_of_ge op n (by omega), show n - 8 < 32 by omega]
  · simp [h8, h16, BitVec.getLsbD_of_ge op n (by omega), BitVec.getLsbD_of_ge p (n - 8) (by omega),
      show n - 16 < 32 by omega]

theorem commandOfWord_or (op : Op) (p : Byte) (d : Word16) :
    commandOfWord ((d.zeroExtend 32 <<< 16) ||| ((p.zeroExtend 32 <<< 8) ||| op.zeroExtend 32)) = ⟨op, 0#4, p, d⟩ := by
  rw [← wordOfCommand_eq_or, commandOfWord_wordOfCommand]

theorem commandOfWord_or_without_data (op : Op) (p : Byte) :
    commandOfWord ((p.zeroExtend 32 <<< 8) ||| op.zeroExtend 32) = ⟨op, 0#4, p, 0#16⟩ := by
  rw [← commandOfWord_or op p 0#16, show (0#16).zeroExtend 32 <<< 16 = 0#32 from rfl, BitVec.zero_or]

/-- Settles O6: each word of R88 is the fields of its row shifted to their places and joined. -/
theorem assembledWordsHaveTheFieldsWritten : Obligations.AssembledWordsHaveTheFieldsWritten := by
  unfold Obligations.AssembledWordsHaveTheFieldsWritten
  exact ⟨fun p => ⟨commandOfWord_or_without_data 0x1#4 p, commandOfWord_or_without_data 0x4#4 p,
      commandOfWord_or_without_data 0x5#4 p, commandOfWord_or_without_data 0x8#4 p⟩,
    fun d => ⟨commandOfWord_or 0x2#4 0x01#8 d, commandOfWord_or 0x7#4 0x01#8 d⟩, rfl, rfl⟩

end Sys2Proof
end

section
/-! PROOFS. One rule for each control point of the sequencer, and the statements of 10_state.md R38 and R39 on the steps of every
command and of R22 on its issue. -/

namespace Sys2Proof.Machine

/-! ## The primitive outstanding at each control point (R38) -/

theorem outstanding_of_wbegin {s : State} (h : s.seqState = .wbegin) : outstanding s = some (.beginTx s.devAddr) := by
  rw [outstanding, h]

theorem outstanding_of_byte {s : State} {b : Byte} (h : s.seqState = .wbyte)
    (hb : (bytesOf s.seqOp s.seqPtr s.seqData)[s.seqK.toNat]? = some b) : outstanding s = some (.write b) := by
  rw [outstanding_of_wbyte h, hb, Option.map_some]

theorem outstanding_of_wend {s : State} (h : s.seqState = .wend) : outstanding s = some (.endTx Config.endStop) := by
  rw [outstanding, h]

theorem outstanding_of_rreq {s : State} (h : s.seqState = .rreq) :
    outstanding s = some (.request s.devAddr Config.readCount) := by
  rw [outstanding, h]

theorem outstanding_of_rpoll {s : State} (h : s.seqState = .rpoll) : outstanding s = some .available := by
  rw [outstanding, h]

theorem outstanding_of_rwait {s : State} (h : s.seqState = .rwait) :
    outstanding s = some (.wait Config.pollIntervalMs) := by
  rw [outstanding, h]

theorem outstanding_of_rread {s : State} (h : s.seqState = .rread) : outstanding s = some (.read Config.readCount) := by
  rw [outstanding, h]

/-! ## The sequencer's step at each control point, once its primitive has returned (R39) -/

section
variable (finish : Word16 → Word16 → Byte → State → State) {s : State}

theorem sequencerStep_of_begin (hs : s.seqState = .wbegin) (ha : s.answer = some .returned) :
    sequencerStep finish s = .next (goTo .wbyte (setK 0#2 (emit (.beginTx s.devAddr) (takeAnswer s)))) := by
  simp only [sequencerStep, hs, stepWBegin, ha]

theorem sequencerStep_of_write {b : Byte} (hs : s.seqState = .wbyte) (ha : s.answer = some .returned)
    (hb : (bytesOf s.seqOp s.seqPtr s.seqData)[s.seqK.toNat]? = some b) :
    sequencerStep finish s = .next (afterWrite (bytesOf s.seqOp s.seqPtr s.seqData).length
      (setK (s.seqK + 1#2) (emit (.write b) (takeAnswer s)))) := by
  simp only [sequencerStep, hs, stepWByte, hb, ha]

theorem sequencerStep_of_end {st : Byte} (hs : s.seqState = .wend) (ha : s.answer = some (.status st)) :
    sequencerStep finish s = .next (afterEnd st (emit (.endTx Config.endStop st) (takeAnswer s))) := by
  simp only [sequencerStep, hs, stepWEnd, ha]

theorem sequencerStep_of_request (hs : s.seqState = .rreq) (ha : s.answer = some .returned) :
    sequencerStep finish s
      = .next (goTo .rpoll (setPolls 0#8 (emit (.request s.devAddr Config.readCount) (takeAnswer s)))) := by
  simp only [sequencerStep, hs, stepRReq, ha]

theorem sequencerStep_of_check {c : Byte} (hs : s.seqState = .rpoll) (ha : s.answer = some (.count c)) :
    sequencerStep finish s
      = .next (goTo (if 2 ≤ c.toNat then .rread else .rwait) (emit (.avail c) (takeAnswer s))) := by
  simp only [sequencerStep, hs, stepRPoll, ha]

theorem sequencerStep_of_wait (hs : s.seqState = .rwait) (ha : s.answer = some .waited) :
    sequencerStep finish s = .next (afterWait finish
      (setPolls (s.seqPolls + 1#8) (emit (.wait Config.pollIntervalMs) (takeAnswer s)))) := by
  simp only [sequencerStep, hs, stepRWait, ha]

/-- Until its primitive returns, the sequencer stays where it is (R40). -/
theorem sequencerStep_of_no_answer {p : Primitive} (ho : outstanding s = some p) (ha : s.answer = none) :
    sequencerStep finish s = .next s := by
  cases hs : s.seqState with
  | wbyte =>
    rw [outstanding_of_wbyte hs, Option.map_eq_some_iff] at ho
    obtain ⟨b, hb, -⟩ := ho
    simp only [sequencerStep, hs, stepWByte, hb, ha]
  | _ => simp only [sequencerStep, hs, stepWBegin, stepWEnd, stepRReq, stepRPoll, stepRWait, stepRRead, ha]

end

/-! ## The issue (R22) -/

/-- Settles O9: the issue is `accept` of the encoding, whose fields are the command's. -/
theorem idleAddressedBlockAcceptsEveryCommand : Obligations.IdleAddressedBlockAcceptsEveryCommand := by
  unfold Obligations.IdleAddressedBlockAcceptsEveryCommand
  intro i s hb hv
  rw [exec_of_idle_addressed i hb hv, accept, encode_op, encode_ptr, encode_data]
  rfl

/-! ## The write phase -/

theorem bytesOf_length_le (op : Op) (ptr : Byte) (d : Word16) : (bytesOf op ptr d).length ≤ 3 := by
  unfold bytesOf
  split_ifs <;> simp

/-- S.k does not wrap while it indexes a byte of a write phase (log 20). -/
theorem next_byteIndex {op : Op} {ptr : Byte} {d : Word16} {k : BitVec 2} (h : k.toNat < (bytesOf op ptr d).length) :
    (k + 1#2).toNat = k.toNat + 1 := by
  have := bytesOf_length_le op ptr d
  rw [BitVec.toNat_add, BitVec.toNat_ofNat]
  omega

/-- The write of a byte leads to the next byte, or after the last to the end. -/
theorem sequencerStep_of_byte (finish : Word16 → Word16 → Byte → State → State) {s : State} {b : Byte}
    (hs : s.seqState = .wbyte) (ha : s.answer = some .returned)
    (hb : (bytesOf s.seqOp s.seqPtr s.seqData)[s.seqK.toNat]? = some b) :
    sequencerStep finish s = .next (goTo
      (if s.seqK.toNat + 1 = (bytesOf s.seqOp s.seqPtr s.seqData).length then .wend else .wbyte)
      (setK (s.seqK + 1#2) (emit (.write b) (takeAnswer s)))) := by
  obtain ⟨hk, -⟩ := List.getElem?_eq_some_iff.1 hb
  rw [sequencerStep_of_write finish hs ha hb, afterWrite_eq, setK_seqK, next_byteIndex hk]
  simp only [setK_seqState, emit_seqState, takeAnswer_seqState, hs]

/-- A successful end leads a command with a read phase to it (R39). -/
theorem afterEnd_of_success {s : State} (h : hasRead s.seqOp = true) : afterEnd 0#8 s = goTo .rreq s := by
  rw [afterEnd, if_neg (not_not_intro (by decide)), if_pos h]

/-- Any other end completes the command (R39, R102). -/
theorem afterEnd_completes {st : Byte} {s : State} (h : st ≠ 0#8 ∨ hasRead s.seqOp = false) :
    afterEnd st s = complete 0#16 (errOf st) 0#27 0#32 0#8 s := by
  rcases afterEnd_cases st s with ⟨hc, -⟩ | ⟨-, he, hr⟩
  · exact hc
  · rw [errOf_eq_zero_iff] at he
    simp [he, hr] at h

/-- Settles O26, by the rules of the three control points. -/
theorem writePhaseStepsOfEveryCommand : Obligations.WritePhaseStepsOfEveryCommand := by
  unfold Obligations.WritePhaseStepsOfEveryCommand
  intro i s hbusy
  rw [exec_of_busy i s hbusy]
  refine ⟨fun hs ha => ?_, fun b hs ha hb => ?_, fun hs ha hr => ?_⟩
  · rw [sequencerStep_of_begin _ hs ha]
    simp only [goTo, setK, emit, takeAnswer]
  · rw [sequencerStep_of_byte _ hs ha hb]
    simp only [goTo, setK, emit, takeAnswer]
  · rw [sequencerStep_of_end _ hs ha, afterEnd_of_success (s := emit _ (takeAnswer s)) hr]
    simp only [goTo, emit, takeAnswer, Config.endStop]

/-! ## The read phase -/

theorem afterWait_below_ceiling (finish : Word16 → Word16 → Byte → State → State) {s : State}
    (h : s.seqPolls.toNat < Config.pollCeiling) : afterWait finish s = goTo .rpoll s :=
  if_neg h.ne

theorem afterWait_at_ceiling (finish : Word16 → Word16 → Byte → State → State) {s : State}
    (h : s.seqPolls.toNat = Config.pollCeiling) : afterWait finish s = finish 0#16 Config.timeoutCode s.seqPolls s :=
  if_pos h

/-- S.polls does not wrap below the ceiling (log 20). -/
theorem next_polls {n : Byte} (h : n.toNat < Config.pollCeiling) : (n + 1#8).toNat = n.toNat + 1 := by
  have h250 : n.toNat < 250 := h
  rw [BitVec.toNat_add, BitVec.toNat_ofNat]
  omega

theorem sequencerStep_of_wait_below_ceiling (finish : Word16 → Word16 → Byte → State → State) {s : State}
    (hs : s.seqState = .rwait) (ha : s.answer = some .waited) (hn : s.seqPolls.toNat < 249) :
    sequencerStep finish s
      = .next (goTo .rpoll (setPolls (s.seqPolls + 1#8) (emit (.wait Config.pollIntervalMs) (takeAnswer s)))) := by
  have hnext : (s.seqPolls + 1#8).toNat < 250 := by
    rw [next_polls (hn.trans (by decide))]
    omega
  rw [sequencerStep_of_wait finish hs ha, afterWait_below_ceiling finish hnext]

theorem sequencerStep_of_wait_at_ceiling (finish : Word16 → Word16 → Byte → State → State) {s : State}
    (hs : s.seqState = .rwait) (ha : s.answer = some .waited) (hn : s.seqPolls = 249#8) :
    sequencerStep finish s = .next (finish 0#16 Config.timeoutCode 250#8
      (setPolls 250#8 (emit (.wait Config.pollIntervalMs) (takeAnswer s)))) := by
  rw [sequencerStep_of_wait finish hs ha, hn]
  exact congrArg _ (afterWait_at_ceiling finish rfl)

theorem outstanding_in_readPhase {s : State} (h : inReadPhase s.seqState = true) :
    outstanding s = some (.request s.devAddr 2#8) ∨ outstanding s = some .available ∨ outstanding s = some (.wait 10)
      ∨ outstanding s = some (.read 2#8) := by
  cases hs : s.seqState <;> rw [hs] at h
  case rreq => exact .inl (outstanding_of_rreq hs)
  case rpoll => exact .inr (.inl (outstanding_of_rpoll hs))
  case rwait => exact .inr (.inr (.inl (outstanding_of_rwait hs)))
  case rread => exact .inr (.inr (.inr (outstanding_of_rread hs)))
  all_goals exact absurd h (by decide)

/-- Settles O27, by the rules of the three control points and the primitives outstanding at the four. -/
theorem readPhaseStepsOfEveryCommand : Obligations.ReadPhaseStepsOfEveryCommand := by
  unfold Obligations.ReadPhaseStepsOfEveryCommand
  refine ⟨fun i s hbusy => ?_, fun s => outstanding_in_readPhase⟩
  rw [exec_of_busy i s hbusy]
  refine ⟨fun hs ha => ?_, fun c hs ha => ?_, fun hs ha hn => ?_⟩
  · rw [sequencerStep_of_request _ hs ha]
    simp only [goTo, setPolls, emit, takeAnswer, Config.readCount]
  · rw [sequencerStep_of_check _ hs ha]
    simp only [goTo, emit, takeAnswer]
  · rw [sequencerStep_of_wait_below_ceiling _ hs ha hn]
    simp only [goTo, setPolls, emit, takeAnswer, Config.pollIntervalMs]

/-- Settles O28: without its answer the sequencer's step changes nothing. -/
theorem commandWaitsForTheAnswer : Obligations.CommandWaitsForTheAnswer := by
  unfold Obligations.CommandWaitsForTheAnswer
  intro i s p hbusy ha ho
  rw [exec_of_busy i s hbusy, sequencerStep_of_no_answer _ ho ha]

/-! ## How a command's step is reached (R22, R36, R39) -/

/-- Settles O7: the turn is the host's, its action a CMD write, and the write of a word that decodes is `exec`. -/
theorem stepIssuesTheDecodedCommand : Obligations.StepIssuesTheDecodedCommand := by
  unfold Obligations.StepIssuesTheDecodedCommand
  intro s v i p ts hsch hp hb hv hd
  rw [step_of_schedule hsch, takeTurn, hostTurn, setSchedule_program, hp]
  simp only
  rw [memWrite_cmd, writeCmd, if_neg (by simp [hb]), if_neg (by simp [hv]), hd]
  rfl

/-- The sequencer's turn while BUSY = 1 is one step of the command in flight (R36). -/
theorem sequencerTurn_of_busy {s : State} {i : Instr} (hb : s.busy = true)
    (hd : decodeFields s.seqOp s.seqPtr s.seqData = .ok i) : sequencerTurn s = exec i s := by
  have hi : inFlight s = some i := by rw [inFlight, hd]
  rw [sequencerTurn, if_pos hb, hi]

/-- Settles O8: both turns are the sequencer's. -/
theorem stepRunsTheCommandInFlight : Obligations.StepRunsTheCommandInFlight := by
  unfold Obligations.StepRunsTheCommandInFlight
  intro s i hb hd
  constructor
  · intro hsch
    rw [step_of_no_schedule hsch, sequencerTurn_of_busy hb hd]
  · intro ts hsch
    rw [step_of_schedule hsch]
    exact sequencerTurn_of_busy (s := setSchedule ts s) hb hd

/-! ## The answers (R41, R191) -/

theorem transportTurn_of_outstanding {s : State} {p : Primitive} (d : Draw) (ha : s.answer = none)
    (ho : outstanding s = some p) : transportTurn d s = answerPrimitive d p s := by
  rw [transportTurn, ha]
  simp only [ho]

theorem timerTurn_of_rwait {s : State} (ha : s.answer = none) (hs : s.seqState = .rwait) :
    timerTurn s = .next (giveAnswer .waited s) := by
  simp only [timerTurn, ha, outstanding_of_rwait hs]

theorem answerPrimitive_read_of_two {d : Draw} {b0 b1 : Byte} (h : d.bytes = [b0, b1]) (n : Byte) (s : State) :
    answerPrimitive d (.read n) s = .next (giveAnswer (.bytes b0 b1) s) := by
  simp only [answerPrimitive, h]

theorem answerPrimitive_read_of_other {d : Draw} (h : d.bytes.length ≠ 2) (n : Byte) (s : State) :
    answerPrimitive d (.read n) s = .refused .readNotTwoBytes := by
  simp only [answerPrimitive]
  split
  next b0 b1 hd => exact absurd (congrArg List.length hd) h
  next => rfl

/-- Settles O30: at each control point the turn answers the primitive outstanding there. -/
theorem answersAreTheDraws : Obligations.AnswersAreTheDraws := by
  unfold Obligations.AnswersAreTheDraws
  intro s d ha
  refine ⟨fun hs => ?_, fun b hs hb => ?_, fun hs => ?_, fun hs => ?_, fun hs => ?_, fun hs b0 b1 hd => ?_, fun hs hd => ?_,
    timerTurn_of_rwait ha⟩
  · exact transportTurn_of_outstanding d ha (outstanding_of_wbegin hs)
  · exact transportTurn_of_outstanding d ha (outstanding_of_byte hs hb)
  · exact transportTurn_of_outstanding d ha (outstanding_of_rreq hs)
  · exact transportTurn_of_outstanding d ha (outstanding_of_wend hs)
  · exact transportTurn_of_outstanding d ha (outstanding_of_rpoll hs)
  · exact (transportTurn_of_outstanding d ha (outstanding_of_rread hs)).trans (answerPrimitive_read_of_two hd _ s)
  · exact (transportTurn_of_outstanding d ha (outstanding_of_rread hs)).trans (answerPrimitive_read_of_other hd _ s)

end Sys2Proof.Machine
end

section
/-! PROOFS. How commands complete: the statements of 40_bus_transaction.md R106 to R109 and of 41_register_value.md R140 to R143,
R151 and R152 on the step that ends a command. -/

namespace Sys2Proof.Machine

/-! ## The completion of each command, with an error and with a word -/

theorem finishIdentifier_eq_finishWord {w e : Word16} (hw : e ≠ 0#16 → w = 0#16) (n : Byte) (s : State) :
    finishIdentifier w e n s = finishWord w e n s := by
  by_cases he : e = 0#16
  · rw [finishIdentifier, if_neg (not_not_intro he), finishWord, he]
  · rw [finishIdentifier, if_pos he, finishWord, hw he]

/-- A completion with an error reports no value (R151). -/
theorem finishOf_of_error {i : Instr} (hr : hasRead (fieldsOf i).op = true) {e : Word16} (he : e ≠ 0#16) (n : Byte)
    (s : State) : finishOf i 0#16 e n s = complete 0#16 e 0#27 0#32 n s := by
  rw [finishOf, if_neg (by simp [hr])]
  split_ifs
  · rfl
  · rw [finishMeasurement, if_pos he]
  · rw [finishIdentifier, if_pos he]

/-- The commands that read a word and leave it as it is: RDWORD, REGRD, RDID and RDCFG. -/
theorem finishOf_wordRead {i : Instr}
    (h : i ∈ [Instr.rdword, .regrdResult, .regrdConfig, .regrdLowlim, .regrdHighlim, .regrdMfrid, .regrdDevid, .rdidMfrid,
      .rdidDevid, .rdcfg]) (w : Word16) (n : Byte) (s : State) :
    finishOf i w 0#16 n s = complete w 0#16 0#27 0#32 n s := by
  obtain ⟨hr, hne⟩ : hasRead (fieldsOf i).op = true ∧ (fieldsOf i).op ≠ OpCode.rdmeas := by
    revert i
    decide
  rw [finishOf, if_neg (by simp [hr])]
  split_ifs
  · rfl
  · rw [finishIdentifier_eq_finishWord fun h => absurd rfl h, finishWord]

theorem finishMeasurement_of_word (w : Word16) (n : Byte) (s : State) :
    finishMeasurement w 0#16 n s = complete w 0#16 (centiOf w) (f32Of w) n s :=
  if_neg (not_not_intro rfl)

/-! ## The ends of the commands -/

theorem hasRead_of_write_command {i : Instr}
    (h : i ∈ [Instr.wrcmdResult, .wrcmdConfig, .wrcmdLowlim, .wrcmdHighlim, .wrcmdMfrid, .wrcmdDevid]
      ∨ (∃ d, i = .wrwordConfig d) ∨ ∃ d, i = .wrcfg d) : hasRead (fieldsOf i).op = false := by
  rcases h with h | ⟨d, rfl⟩ | ⟨d, rfl⟩
  · revert i
    decide
  · rfl
  · rfl

/-- The end of a write phase that completes its command: a failed one, or that of a command with no read phase. -/
theorem exec_of_end_completing (i : Instr) {s : State} {st : Byte} (hb : s.busy = true) (hs : s.seqState = .wend)
    (ha : s.answer = some (.status st)) (h : st ≠ 0#8 ∨ hasRead s.seqOp = false) :
    exec i s = .next { s with
      answer := none, trace := s.trace ++ [.endTx true st],
      word := 0#16, err := BitVec.ofInt 16 (-10 * (st.toNat : Int)), luxCenti := 0#27, luxF32 := 0#32, pollCnt := 0#8,
      busy := false, done := true, seqState := .idle } := by
  rw [exec_of_busy i s hb, sequencerStep_of_end _ hs ha, afterEnd_completes (s := emit _ (takeAnswer s)) h]
  simp only [complete, emit, takeAnswer, errOf, Config.endStop, Config.errScale]

/-- Settles O31: with no read phase, every end completes. -/
theorem writeCommandsCompleteAtTheirEnd : Obligations.WriteCommandsCompleteAtTheirEnd := by
  unfold Obligations.WriteCommandsCompleteAtTheirEnd
  intro i s st hi hb hop hs ha
  exact exec_of_end_completing i hb hs ha (.inr (by rw [hop, hasRead_of_write_command hi]))

/-- Settles O34: a failed end completes whatever the command. -/
theorem busFaultEndsEveryCommand : Obligations.BusFaultEndsEveryCommand := by
  unfold Obligations.BusFaultEndsEveryCommand
  exact fun i s st hb hs ha hst => exec_of_end_completing i hb hs ha (.inl hst)

/-- Settles O35: the last wait hands the timeout to the command's completion, which reports no value. -/
theorem theCeilingEndsEveryReadCommand : Obligations.TheCeilingEndsEveryReadCommand := by
  unfold Obligations.TheCeilingEndsEveryReadCommand
  intro i s hr hb hs ha hn
  rw [exec_of_busy i s hb, sequencerStep_of_wait_at_ceiling _ hs ha hn, finishOf_of_error hr (by decide)]
  simp only [complete, setPolls, emit, takeAnswer, Config.timeoutCode, Config.pollIntervalMs]

/-- Settles O32: the READ hands the word to a completion that leaves it as it is. -/
theorem wordReadsCompleteAtTheirRead : Obligations.WordReadsCompleteAtTheirRead := by
  unfold Obligations.WordReadsCompleteAtTheirRead
  intro i s b0 b1 hi hb hs ha
  rw [exec_of_busy i s hb, sequencerStep_of_read _ hs ha, finishOf_wordRead hi]
  simp only [complete, setSeqWord, emit, takeAnswer, assembleWord, Config.readCount]

/-- Settles O33: the READ hands the word to the completion that decodes it. -/
theorem measurementsCompleteAtTheirRead : Obligations.MeasurementsCompleteAtTheirRead := by
  unfold Obligations.MeasurementsCompleteAtTheirRead
  intro i s b0 b1 hi hb hs ha
  refine ⟨centiOf (b0 ++ b1), (centiOf_toNat _).trans (centiNat_eq _), ?_⟩
  rw [exec_of_busy i s hb, sequencerStep_of_read _ hs ha, finishOf_rdmeas hi, finishMeasurement_of_word]
  simp only [complete, setSeqWord, emit, takeAnswer, assembleWord, Config.readCount]

/-! ## RDID and RDCFG as REGRD (R152) -/

/-- The sequencer looks at its completion only with no error, or with an error and no word. -/
theorem sequencerStep_congr {f g : Word16 → Word16 → Byte → State → State}
    (h : ∀ w e n s, (e ≠ 0#16 → w = 0#16) → f w e n s = g w e n s) (s : State) :
    sequencerStep f s = sequencerStep g s := by
  have hwait : stepRWait f s = stepRWait g s := by
    simp only [stepRWait, afterWait, h 0#16 Config.timeoutCode _ _ fun _ => rfl]
  have hread : stepRRead f s = stepRRead g s := by
    simp only [stepRRead, h _ 0#16 _ _ fun he => absurd rfl he]
  rw [sequencerStep, sequencerStep, hwait, hread]

theorem exec_identifier_eq_exec_word {i j : Instr} (hi : finishOf i = finishIdentifier) (hj : finishOf j = finishWord)
    {s : State} (hb : s.busy = true) : exec i s = exec j s := by
  rw [exec_of_busy i s hb, exec_of_busy j s hb, hi, hj]
  exact sequencerStep_congr (fun w e n s hw => finishIdentifier_eq_finishWord hw n s) s

end Sys2Proof.Machine
end

section
/-! PROOFS. Frames: what a step of the sequencer and a turn of the host leave alone, and the statements of 10_state.md and
20_memory.md that follow from them. -/

namespace Sys2Proof.Machine

/-! ## What a step of the sequencer is, whatever the command (R38, R39) -/

/-- The primitive whose return an event is (R13, R40). -/
def primitiveOf (e : BusEvent) : Primitive :=
  match e with
  | .beginTx a => .beginTx a
  | .write b => .write b
  | .endTx stop _ => .endTx stop
  | .request a n => .request a n
  | .avail _ => .available
  | .wait ms => .wait ms
  | .read n _ _ => .read n

/-- The command goes on after some events, to a control point with S.k and S.polls. -/
def goesOnAfter (es : List BusEvent) (c : Control) (k : BitVec 2) (n : Byte) (s : State) : State :=
  { s with answer := none, trace := s.trace ++ es, seqState := c, seqK := k, seqPolls := n }

/-- The command completes after some events, leaving S.k, S.polls and S.word. -/
def completesWith (es : List BusEvent) (r : ResultRegs) (k : BitVec 2) (n : Byte) (w : Word16) (s : State) : State :=
  { s with
    answer := none, trace := s.trace ++ es, seqK := k, seqPolls := n, seqWord := w,
    word := r.word, err := r.err, luxCenti := r.luxCenti, luxF32 := r.luxF32, pollCnt := r.pollCnt,
    busy := false, done := true, seqState := .idle }

theorem goTo_eq_goesOnAfter (e : BusEvent) (c : Control) (s : State) :
    goTo c (emit e (takeAnswer s)) = goesOnAfter [e] c s.seqK s.seqPolls s := by
  simp only [goTo, emit, takeAnswer, goesOnAfter]

theorem goTo_setK_eq_goesOnAfter (e : BusEvent) (c : Control) (k : BitVec 2) (s : State) :
    goTo c (setK k (emit e (takeAnswer s))) = goesOnAfter [e] c k s.seqPolls s := by
  simp only [goTo, setK, emit, takeAnswer, goesOnAfter]

theorem goTo_setPolls_eq_goesOnAfter (e : BusEvent) (c : Control) (n : Byte) (s : State) :
    goTo c (setPolls n (emit e (takeAnswer s))) = goesOnAfter [e] c s.seqK n s := by
  simp only [goTo, setPolls, emit, takeAnswer, goesOnAfter]

theorem complete_eq_completesWith (w e : Word16) (c : BitVec 27) (f : Word32) (n : Byte) (s : State) (ev : BusEvent)
    (m : Byte) (sw : Word16) :
    complete w e c f n (setPolls m (setSeqWord sw (emit ev (takeAnswer s))))
      = completesWith [ev] ⟨w, e, c, f, n⟩ s.seqK m sw s := by
  simp only [complete, setPolls, setSeqWord, emit, takeAnswer, completesWith]

theorem finishOf_eq_completesWith (i : Instr) {w e : Word16} (n : Byte) (ev : BusEvent) (m : Byte) (sw : Word16) (s : State)
    (hw : e ≠ 0#16 → w = 0#16) :
    ∃ r, finishOf i w e n (setPolls m (setSeqWord sw (emit ev (takeAnswer s))))
      = completesWith [ev] r s.seqK m sw s := by
  obtain ⟨w', c, n', h, -⟩ := finishOf_is_complete i w e n (setPolls m (setSeqWord sw (emit ev (takeAnswer s)))) hw
  exact ⟨_, h.trans (complete_eq_completesWith ..)⟩

/-- A step of the sequencer changes nothing, or takes the one event of the outstanding primitive and then goes on or completes. -/
theorem sequencerStep_event {i : Instr} {s t : State} (h : sequencerStep (finishOf i) s = .next t) :
    t = s ∨ ∃ e, outstanding s = some (primitiveOf e)
      ∧ ((∃ c k n, t = goesOnAfter [e] c k n s) ∨ ∃ r k n w, t = completesWith [e] r k n w s) := by
  rcases sequencerStep_cases h with rfl | ⟨hs, -, rfl⟩ | ⟨b, hs, hb, -, rfl⟩ | ⟨st, hs, -, rfl⟩ | ⟨hs, -, rfl⟩
    | ⟨c, hs, -, rfl⟩ | ⟨hs, -, rfl⟩ | ⟨b0, b1, hs, -, rfl⟩
  · exact .inl rfl
  · exact .inr ⟨.beginTx s.devAddr, outstanding_of_wbegin hs, .inl ⟨_, _, _, goTo_setK_eq_goesOnAfter ..⟩⟩
  · rw [afterWrite_eq]
    exact .inr ⟨.write b, outstanding_of_byte hs hb, .inl ⟨_, _, _, goTo_setK_eq_goesOnAfter ..⟩⟩
  · refine .inr ⟨.endTx Config.endStop st, outstanding_of_wend hs, ?_⟩
    rcases afterEnd_cases st (emit (.endTx Config.endStop st) (takeAnswer s)) with ⟨he, -⟩ | ⟨he, -⟩ <;> rw [he]
    · exact .inr ⟨_, _, _, _, complete_eq_completesWith _ _ _ _ _ s (.endTx Config.endStop st) s.seqPolls s.seqWord⟩
    · exact .inl ⟨_, _, _, goTo_eq_goesOnAfter ..⟩
  · exact .inr ⟨.request s.devAddr Config.readCount, outstanding_of_rreq hs,
      .inl ⟨_, _, _, goTo_setPolls_eq_goesOnAfter ..⟩⟩
  · exact .inr ⟨.avail c, outstanding_of_rpoll hs, .inl ⟨_, _, _, goTo_eq_goesOnAfter ..⟩⟩
  · refine .inr ⟨.wait Config.pollIntervalMs, outstanding_of_rwait hs, ?_⟩
    unfold afterWait
    split_ifs
    · obtain ⟨r, hr⟩ := finishOf_eq_completesWith i (w := 0#16) (e := Config.timeoutCode) (s.seqPolls + 1#8)
        (.wait Config.pollIntervalMs) (s.seqPolls + 1#8) s.seqWord s fun _ => rfl
      exact .inr ⟨r, _, _, _, hr⟩
    · exact .inl ⟨_, _, _, goTo_setPolls_eq_goesOnAfter ..⟩
  · obtain ⟨r, hr⟩ := finishOf_eq_completesWith i (w := assembleWord b0 b1) (e := 0#16) s.seqPolls
      (.read Config.readCount b0 b1) s.seqPolls (assembleWord b0 b1) s fun he => absurd rfl he
    exact .inr ⟨.read Config.readCount b0 b1, outstanding_of_rread hs, .inr ⟨r, _, _, _, hr⟩⟩

/-- Settles O36: neither a wait, nor going on, nor completing writes what the frame names. -/
theorem sequencerStepLeavesTheRestAlone : Obligations.SequencerStepLeavesTheRestAlone := by
  unfold Obligations.SequencerStepLeavesTheRestAlone
  intro i s t hb h
  rw [exec_of_busy i s hb] at h
  rcases sequencerStep_event h with rfl | ⟨e, -, ⟨c, k, n, rfl⟩ | ⟨r, k, n, w, rfl⟩⟩
  · simp [hb]
  · simp [goesOnAfter, hb]
  · simp [completesWith]

theorem outstanding_ne_init (s : State) : outstanding s ≠ some .init := by
  unfold outstanding
  split <;> simp

/-- Settles O37: the event of a step is that of the outstanding primitive, of which there are seven kinds. -/
theorem eventsAreTheOutstandingPrimitives : Obligations.EventsAreTheOutstandingPrimitives := by
  unfold Obligations.EventsAreTheOutstandingPrimitives
  constructor
  · intro i s t hb h
    rw [exec_of_busy i s hb] at h
    have hev : t = s ∨ ∃ e, outstanding s = some (primitiveOf e) ∧ t.trace = s.trace ++ [e] := by
      rcases sequencerStep_event h with rfl | ⟨e, he, ⟨c, k, n, rfl⟩ | ⟨r, k, n, w, rfl⟩⟩
      · exact .inl rfl
      · exact .inr ⟨e, he, rfl⟩
      · exact .inr ⟨e, he, rfl⟩
    rcases hev with rfl | ⟨e, he, ht⟩
    · exact .inl rfl
    · rw [he, ht]
      right
      cases e <;> simp [primitiveOf]
  · intro s
    refine ⟨outstanding_ne_init s, ?_⟩
    cases hs : s.seqState <;> simp [outstanding, hs, Config.endStop, Config.readCount, Config.pollIntervalMs]

/-! ## The host's turn while BUSY = 1 (R74, R184, R188) -/

theorem writeReg_of_busy {off : Offset} {v : Word32} {s t : State} (hb : s.busy = true) (h : writeReg off v s = .next t) :
    t = s ∨ t = writeStatus v s ∨ t = raiseOverrun s := by
  rcases writeReg_cases h with ht | ⟨-, ht⟩ | ⟨-, hi, -⟩ | ⟨-, -, ht⟩ | ⟨-, hi, -⟩ | ⟨i, -, hi, -⟩
  · exact .inl ht
  · exact .inr (.inl ht)
  · simp [hb] at hi
  · exact .inr (.inr ht)
  · simp [hb] at hi
  · simp [hb] at hi

/-- While BUSY = 1 a host turn reads a register, clears STATUS bits or raises OVERRUN. -/
theorem hostTurn_of_busy {s t : State} (hb : s.busy = true) (h : hostTurn s = .next t) :
    ∃ (d il ov : Bool) (p : List HostAction) (rs : List HostRead),
      t = { s with done := d, illegal := il, overrun := ov, program := p, reads := rs } := by
  rcases hostTurn_cases h with ⟨-, rfl⟩ | ⟨off, p, rfl⟩ | ⟨off, v, p, -, hw⟩
  · exact ⟨t.done, t.illegal, t.overrun, t.program, t.reads, rfl⟩
  · exact ⟨s.done, s.illegal, s.overrun, p, _, rfl⟩
  · rcases writeReg_of_busy (s := setProgram p s) hb hw with rfl | rfl | rfl
    · exact ⟨s.done, s.illegal, s.overrun, p, s.reads, rfl⟩
    · exact ⟨_, _, _, p, s.reads, rfl⟩
    · exact ⟨s.done, s.illegal, true, p, s.reads, rfl⟩

/-- Settles O43: none of the three writes the command, its address or a result. -/
theorem hostCannotDisturbACommandInFlight : Obligations.HostCannotDisturbACommandInFlight := by
  unfold Obligations.HostCannotDisturbACommandInFlight
  exact fun s t => hostTurn_of_busy

/-! ## The host's accesses by register (R23, R29, R30, R32 to R34, R67, R88) -/

/-- Settles O14: a STATUS write is `writeStatus`, which clears a bit where the value has a 1. -/
theorem statusWriteClearsOnesOnly : Obligations.StatusWriteClearsOnesOnly := by
  unfold Obligations.StatusWriteClearsOnesOnly
  intro v s
  have hbit : ∀ a b : Bool, (if b = true then false else a) = (a && !b) := by decide
  rw [memWrite_aligned (by decide), writeReg, writeStatus]
  simp only [hbit]

/-- Settles O16: sign extension keeps the integer, zero extension the number. -/
theorem resultRegistersReadExtended : Obligations.ResultRegistersReadExtended := by
  unfold Obligations.ResultRegistersReadExtended
  intro s
  refine ⟨?_, ?_, ?_, rfl, ?_⟩
  · exact BitVec.toInt_signExtend_of_le (by omega)
  · exact BitVec.toNat_setWidth_of_le (by omega)
  · exact BitVec.toNat_setWidth_of_le (by omega)
  · exact BitVec.toNat_setWidth_of_le (by omega)

theorem memWrite_readOnly {off : Offset} (h : off ∈ [0x08#8, 0x0C#8, 0x10#8, 0x14#8, 0x18#8, 0x20#8]) (v : Word32)
    (s : State) : memWrite off .four v s = .next s := by
  simp only [List.mem_cons, List.not_mem_nil, or_false] at h
  rcases h with rfl | rfl | rfl | rfl | rfl | rfl <;> exact memWrite_aligned (by decide) v s

/-- Settles O20: an aligned read is logged, and a write reaches no register that is read-only. -/
theorem readsAndReadOnlyWritesHaveNoEffect : Obligations.ReadsAndReadOnlyWritesHaveNoEffect := by
  unfold Obligations.ReadsAndReadOnlyWritesHaveNoEffect
  exact ⟨fun off s h => memRead_aligned ((aligned_iff off).2 h) s, fun off v s h => memWrite_readOnly h v s⟩

/-- Settles O21: WAITIDLE's read is logged, and bit 0 of the value it returns is BUSY. -/
theorem waitIdleRepeatsUntilNotBusy : Obligations.WaitIdleRepeatsUntilNotBusy := by
  unfold Obligations.WaitIdleRepeatsUntilNotBusy
  intro s p hp
  rw [hostTurn, hp]
  simp only
  rw [memRead_aligned (by decide), statusWord_busy]
  split_ifs
  · rw [← hp]; rfl
  · rfl

/-! ## A reset (R200, R202) -/

/-- Settles O39: a reset is `resetBlock`. -/
theorem resetAbandonsTheCommandInFlight : Obligations.ResetAbandonsTheCommandInFlight := by
  unfold Obligations.ResetAbandonsTheCommandInFlight
  intro s ts h
  rw [step_of_schedule h, takeTurn, resetBlock]
  rfl

/-! ## What only a completion or a reset changes, and the ends of BUSY (R24, R37, R66, R71) -/

/-- The result registers (R21). -/
def resultsOf (s : State) : ResultRegs := ⟨s.word, s.err, s.luxCenti, s.luxF32, s.pollCnt⟩

@[simp] theorem resultsOf_giveAnswer (a : Answer) (s : State) : resultsOf (giveAnswer a s) = resultsOf s := rfl
@[simp] theorem resultsOf_setSchedule (ts : List Turn) (s : State) : resultsOf (setSchedule ts s) = resultsOf s := rfl
@[simp] theorem resultsOf_setProgram (p : List HostAction) (s : State) : resultsOf (setProgram p s) = resultsOf s := rfl
@[simp] theorem resultsOf_goesOnAfter (es : List BusEvent) (c : Control) (k : BitVec 2) (n : Byte) (s : State) :
    resultsOf (goesOnAfter es c k n s) = resultsOf s := by
  simp [resultsOf, goesOnAfter]

@[simp] theorem goesOnAfter_busy (es : List BusEvent) (c : Control) (k : BitVec 2) (n : Byte) (s : State) :
    (goesOnAfter es c k n s).busy = s.busy := by
  simp [goesOnAfter]

theorem writeReg_keeps_results {off : Offset} {v : Word32} {s t : State} (h : writeReg off v s = .next t) :
    resultsOf t = resultsOf s ∧ t.trace = s.trace := by
  rcases writeReg_cases h with rfl | ⟨-, rfl⟩ | ⟨-, -, rfl⟩ | ⟨-, -, rfl⟩ | ⟨-, -, -, rfl⟩ | ⟨i, -, -, -, -, rfl⟩ <;>
    exact ⟨rfl, rfl⟩

theorem hostTurn_keeps_results {s t : State} (h : hostTurn s = .next t) :
    resultsOf t = resultsOf s ∧ t.trace = s.trace := by
  rcases hostTurn_cases h with ⟨-, rfl⟩ | ⟨off, p, rfl⟩ | ⟨off, v, p, -, hw⟩
  · exact ⟨rfl, rfl⟩
  · exact ⟨rfl, rfl⟩
  · simpa using writeReg_keeps_results hw

/-- A host turn raises BUSY only by the issue of a legal word to an addressed block, and never lowers it. -/
theorem hostTurn_busy {s t : State} (h : hostTurn s = .next t) :
    t.busy = s.busy ∨ (s.busy = false ∧ ∃ v p, s.program = .write 0x00#8 .four v :: p ∧ s.devValid = true
      ∧ legal v = true ∧ t = accept v (setProgram p s)) := by
  rcases hostTurn_cases h with ⟨-, rfl⟩ | ⟨off, p, rfl⟩ | ⟨off, v, p, hp, hw⟩
  · exact .inl rfl
  · exact .inl rfl
  · rcases writeReg_cases hw with rfl | ⟨-, rfl⟩ | ⟨-, -, rfl⟩ | ⟨-, -, rfl⟩ | ⟨-, -, -, rfl⟩ | ⟨i, rfl, hb, hv, hd, rfl⟩
    case inr.inr.inr.inr.inr =>
      rw [encode_of_decode hd]
      exact .inr ⟨hb, v, p, hp, hv, (legal_iff_decodes v).2 ⟨i, hd⟩, rfl⟩
    all_goals exact .inl rfl

/-- What a step does to BUSY, the results and the trace: a reset; a host turn, which leaves results and trace; nothing to any of
them; or, while BUSY = 1, an event with which the command goes on or completes. -/
theorem step_busy_results_trace {s t : State} (h : step s = .next t) :
    (∃ ts, s.schedule = .reset :: ts ∧ t.busy = false ∧ t.trace = s.trace)
    ∨ (∃ ts, s.schedule = .host :: ts ∧ hostTurn (setSchedule ts s) = .next t)
    ∨ (t.busy = s.busy ∧ resultsOf t = resultsOf s ∧ (t.trace = s.trace ∨ s.busy = true))
    ∨ (s.busy = true ∧ t.busy = false ∧ t.done = true ∧ t.seqState = .idle ∧ ∃ e, t.trace = s.trace ++ [e]) := by
  rcases step_next_cases h with ⟨ts, hs, rfl⟩ | hh | ⟨u, hu, ht⟩
  · exact .inl ⟨ts, hs, rfl, rfl⟩
  · exact .inr (.inl hh)
  · have hus : u.busy = s.busy ∧ resultsOf u = resultsOf s ∧ u.trace = s.trace := by
      rcases hu with rfl | ⟨ts, rfl⟩ <;> exact ⟨rfl, rfl, rfl⟩
    obtain ⟨hub, hur, hut⟩ := hus
    right; right
    rcases ht with rfl | ⟨a, -, -, rfl, -⟩ | ⟨hb, i, -, hseq⟩
    · exact .inl ⟨hub, hur, .inl hut⟩
    · exact .inl ⟨hub, (resultsOf_giveAnswer a u).trans hur, .inl hut⟩
    · rw [hub] at hb
      rcases sequencerStep_event hseq with rfl | ⟨e, -, ⟨c, k, n, rfl⟩ | ⟨r, k, n, w, rfl⟩⟩
      · exact .inl ⟨hub, hur, .inl hut⟩
      · exact .inl ⟨by simp [hub], by simp [hur], .inr hb⟩
      · exact .inr ⟨hb, by simp [completesWith, hut]⟩

theorem eq_of_resultsOf_eq {s t : State} (h : resultsOf t = resultsOf s) :
    t.err = s.err ∧ t.word = s.word ∧ t.luxCenti = s.luxCenti ∧ t.luxF32 = s.luxF32 ∧ t.pollCnt = s.pollCnt := by
  simp only [resultsOf, ResultRegs.mk.injEq] at h
  obtain ⟨hw, he, hc, hf, hn⟩ := h
  exact ⟨he, hw, hc, hf, hn⟩

/-- Settles O44: of the kinds of step only a completion and a reset touch the results. -/
theorem resultsChangeOnlyAtCompletion : Obligations.ResultsChangeOnlyAtCompletion := by
  unfold Obligations.ResultsChangeOnlyAtCompletion
  intro s t h
  rcases step_busy_results_trace h with ⟨ts, hs, -⟩ | ⟨ts, -, hh⟩ | ⟨-, hr, -⟩ | hc
  · exact .inr (.inr ⟨ts, hs⟩)
  · exact .inl (eq_of_resultsOf_eq (hostTurn_keeps_results hh).1)
  · exact .inl (eq_of_resultsOf_eq hr)
  · exact .inr (.inl hc)

/-- Settles O45: BUSY is raised by the host's issue alone, lowered by a completion or a reset alone, and the trace grows in a
command alone. -/
theorem busySpansExactlyACommand : Obligations.BusySpansExactlyACommand := by
  unfold Obligations.BusySpansExactlyACommand
  intro s t h
  rcases step_busy_results_trace h with ⟨ts, hs, hb, ht⟩ | ⟨ts, hs, hh⟩ | ⟨hb, -, ht⟩ | ⟨hsb, htb, hd, hi, ht⟩
  · exact ⟨fun _ htb => by simp [hb] at htb, fun _ _ => .inr ⟨ts, hs⟩, fun hne => absurd ht hne⟩
  · have ht := (hostTurn_keeps_results hh).2
    rcases hostTurn_busy hh with hb | ⟨hsb, v, p, hp, hv, hl, rfl⟩
    · have hb : t.busy = s.busy := hb
      exact ⟨fun h0 h1 => by simp [hb, h0] at h1, fun h1 h0 => by simp [hb, h1] at h0, fun hne => absurd ht hne⟩
    · have hsb : s.busy = false := hsb
      exact ⟨fun _ _ => ⟨ts, p, v, hs, hp, hv, hl, rfl, rfl, rfl⟩, fun h1 => by simp [hsb] at h1,
        fun hne => absurd rfl hne⟩
  · exact ⟨fun h0 h1 => by simp [hb, h0] at h1, fun h1 h0 => by simp [hb, h1] at h0, fun hne => ht.resolve_left hne⟩
  · exact ⟨fun h0 => by simp [hsb] at h0, fun _ _ => .inl ⟨hd, hi, ht⟩, fun _ => hsb⟩

end Sys2Proof.Machine
end

section
/-! PROOFS. The invariant: it holds after reset, every step keeps it, and a state that has it does not fault; and the statements
of 10_state.md R41 and 60_exceptions.md R196 that rest on it. -/

namespace Sys2Proof.Machine

/-- Settles O40: after reset the block is at IDLE with BUSY = 0 and every result 0. -/
theorem resetStateSatisfiesTheInvariant : Obligations.ResetStateSatisfiesTheInvariant := by
  unfold Obligations.ResetStateSatisfiesTheInvariant
  exact { busy := by decide, inFlight := by decide, lastCmd := by decide, done := by decide, phase := by decide,
          byteIndex := by decide, polls := by decide, answer := nofun, err := by decide, pollCnt := by decide,
          results := by decide }

/-! ## What the invariant gives -/

section
variable {s : State}

theorem StateInv.seqState_of_idle (h : StateInv s) (hb : s.busy = false) : s.seqState = .idle := by
  by_contra hne
  simp [h.busy.2 hne] at hb

theorem StateInv.answer_of_idle (h : StateInv s) (hs : s.seqState = .idle) : s.answer = none := by
  cases ha : s.answer with
  | none => rfl
  | some a => simpa [hs] using h.answer a ha

/-- BUSY stands for a command: its fields decode (R36). -/
theorem StateInv.decodes (h : StateInv s) (hb : s.busy = true) :
    ∃ i, decodeFields s.seqOp s.seqPtr s.seqData = .ok i := by
  obtain ⟨-, hl, hop, hptr, hdata⟩ := h.inFlight hb
  obtain ⟨i, hi⟩ := (legal_iff_decodes s.lastCmd).1 hl
  rw [hop, hptr, hdata]
  exact ⟨i, ((decode_eq_ok_iff _ i).1 hi).2⟩

/-- At WBYTE there is a byte to write. -/
theorem StateInv.byte_at_wbyte (h : StateInv s) (hs : s.seqState = .wbyte) :
    ∃ b, (bytesOf s.seqOp s.seqPtr s.seqData)[s.seqK.toNat]? = some b :=
  ⟨_, List.getElem?_eq_getElem (h.byteIndex hs)⟩

/-- While BUSY = 1 a primitive is outstanding (R38). -/
theorem StateInv.outstanding_of_busy (h : StateInv s) (hb : s.busy = true) : ∃ p, outstanding s = some p := by
  cases hs : s.seqState with
  | idle => exact absurd hs (h.busy.1 hb)
  | wbyte =>
    obtain ⟨b, hbyte⟩ := h.byte_at_wbyte hs
    exact ⟨_, outstanding_of_byte hs hbyte⟩
  | _ => simp [outstanding, hs]

end

/-! ## Updates that keep the invariant -/

section
variable {s : State}

/-- The refusal bits, the device address, the other agents and what was observed are not in the invariant. -/
theorem StateInv.of_unread (h : StateInv s) (il ov : Bool) (p : List HostAction) (ts : List Turn) (tr : List BusEvent)
    (rs : List HostRead) :
    StateInv { s with illegal := il, overrun := ov, program := p, schedule := ts, trace := tr, reads := rs } :=
  ⟨h.busy, h.inFlight, h.lastCmd, h.done, h.phase, h.byteIndex, h.polls, h.answer, h.err, h.pollCnt, h.results⟩

theorem StateInv.after_setSchedule (h : StateInv s) (ts : List Turn) : StateInv (setSchedule ts s) :=
  h.of_unread s.illegal s.overrun s.program ts s.trace s.reads

theorem StateInv.after_setProgram (h : StateInv s) (p : List HostAction) : StateInv (setProgram p s) :=
  h.of_unread s.illegal s.overrun p s.schedule s.trace s.reads

theorem StateInv.after_logRead (h : StateInv s) (off : Offset) : StateInv (logRead off s) :=
  h.of_unread s.illegal s.overrun s.program s.schedule s.trace _

theorem StateInv.after_raiseIllegal (h : StateInv s) : StateInv (raiseIllegal s) :=
  h.of_unread true s.overrun s.program s.schedule s.trace s.reads

theorem StateInv.after_raiseOverrun (h : StateInv s) : StateInv (raiseOverrun s) :=
  h.of_unread s.illegal true s.program s.schedule s.trace s.reads

theorem StateInv.after_writeStatus (h : StateInv s) (v : Word32) : StateInv (writeStatus v s) where
  busy := h.busy
  inFlight := h.inFlight
  lastCmd := h.lastCmd
  done := fun hb => by rw [writeStatus_done, h.done hb, ite_self]
  phase := h.phase
  byteIndex := h.byteIndex
  polls := h.polls
  answer := h.answer
  err := h.err
  pollCnt := h.pollCnt
  results := h.results

theorem StateInv.after_setDevAddr (h : StateInv s) (v : Word32) : StateInv (setDevAddr v s) where
  busy := h.busy
  inFlight := fun hb => ⟨rfl, (h.inFlight hb).2⟩
  lastCmd := h.lastCmd
  done := h.done
  phase := h.phase
  byteIndex := h.byteIndex
  polls := h.polls
  answer := h.answer
  err := h.err
  pollCnt := h.pollCnt
  results := h.results

theorem StateInv.after_giveAnswer (h : StateInv s) {a : Answer} (ha : answerFits s.seqState a = true) :
    StateInv (giveAnswer a s) where
  busy := h.busy
  inFlight := h.inFlight
  lastCmd := h.lastCmd
  done := h.done
  phase := h.phase
  byteIndex := h.byteIndex
  polls := h.polls
  answer := fun b hb => by
    rw [giveAnswer_answer, Option.some.injEq] at hb
    exact hb ▸ ha
  err := h.err
  pollCnt := h.pollCnt
  results := h.results

theorem entryState_cases (op : Op) :
    (op = OpCode.rdword ∧ entryState op = .rreq) ∨ (op ≠ OpCode.rdword ∧ entryState op = .wbegin) := by
  by_cases h : op = OpCode.rdword
  · exact .inl ⟨h, if_pos h⟩
  · exact .inr ⟨h, if_neg h⟩

/-- An accepted issue enters the phase its command begins with (R22, R38). -/
theorem StateInv.after_accept (h : StateInv s) (hb : s.busy = false) (hv : s.devValid = true) {v : Word32}
    (hl : legal v = true) : StateInv (accept v s) := by
  have ha : s.answer = none := h.answer_of_idle (h.seqState_of_idle hb)
  have hentry := entryState_cases (v.extractLsb' 0 4)
  refine ⟨?_, fun _ => ⟨hv, hl, rfl, rfl, rfl⟩, .inr hl, fun _ => rfl, ?_, ?_, ?_, fun a he => ?_, h.err, h.pollCnt,
    h.results⟩
  · rcases hentry with ⟨-, he⟩ | ⟨-, he⟩ <;> simp [BusyExactlyOutsideIdle, he]
  · rcases hentry with ⟨hop, he⟩ | ⟨hop, he⟩
    · simp only [PhaseFitsCommand, accept_seqState, accept_seqOp, he]
      exact ⟨nofun, fun _ => hop ▸ rfl⟩
    · simp only [PhaseFitsCommand, accept_seqState, accept_seqOp, he]
      exact ⟨fun _ => hop, nofun⟩
  · rcases hentry with ⟨-, he⟩ | ⟨-, he⟩ <;> simp [ByteIndexInRange, he]
  · rcases hentry with ⟨-, he⟩ | ⟨-, he⟩ <;> simp [PollsBelowCeiling, he]
  · rw [accept_answer, ha] at he
    cases he

/-- Going on keeps the invariant where the next control point is one of the command's phases, with S.k and
S.polls in range there. -/
theorem StateInv.after_goingOn (h : StateInv s) (hb : s.busy = true) (es : List BusEvent) {c : Control} {k : BitVec 2}
    {n : Byte} (hidle : c ≠ .idle) (hw : inWritePhase c = true → s.seqOp ≠ OpCode.rdword)
    (hr : inReadPhase c = true → hasRead s.seqOp = true)
    (hk : c = .wbyte → k.toNat < (bytesOf s.seqOp s.seqPtr s.seqData).length)
    (hn : c = .rpoll ∨ c = .rwait ∨ c = .rread → n.toNat < Config.pollCeiling) :
    StateInv (goesOnAfter es c k n s) where
  busy := iff_of_true hb hidle
  inFlight := h.inFlight
  lastCmd := h.lastCmd
  done := h.done
  phase := ⟨hw, hr⟩
  byteIndex := hk
  polls := hn
  answer := nofun
  err := h.err
  pollCnt := h.pollCnt
  results := h.results

/-- A completion establishes the invariant where its results are legal and agree with each other. -/
theorem stateInv_complete (hl : LastCmdLegalOrReset s) (ha : s.answer = none) {w e : Word16} {c : BitVec 27} {n : Byte}
    (he : -2550 ≤ e.toInt ∧ e.toInt ≤ 0 ∧ e.toInt % 10 = 0) (hn : n.toNat ≤ Config.pollCeiling)
    (hv : e ≠ 0#16 → w = 0#16 ∧ c = 0#27) (hc : c = 0#27 ∨ c = centiOf w) :
    StateInv (complete w e c (f32OfCenti c.toNat) n s) where
  busy := iff_of_false nofun (not_not_intro rfl)
  inFlight := nofun
  lastCmd := hl
  done := nofun
  phase := ⟨nofun, nofun⟩
  byteIndex := nofun
  polls := by simp [PollsBelowCeiling]
  answer := fun a hs => by simp [ha] at hs
  err := he
  pollCnt := hn
  results := ⟨hv, rfl, hc⟩

theorem stateInv_finishOf (i : Instr) (hl : LastCmdLegalOrReset s) (ha : s.answer = none) {w e : Word16} {n : Byte}
    (he : -2550 ≤ e.toInt ∧ e.toInt ≤ 0 ∧ e.toInt % 10 = 0) (hn : n.toNat ≤ Config.pollCeiling)
    (hw : e ≠ 0#16 → w = 0#16) : StateInv (finishOf i w e n s) := by
  obtain ⟨w', c, n', hfin, hv, hc, hn'⟩ := finishOf_is_complete i w e n s hw
  rw [hfin]
  refine stateInv_complete hl ha he ?_ hv hc
  rcases hn' with rfl | rfl
  · exact Nat.zero_le _
  · exact hn

end

theorem bytesOf_length_pos (op : Op) (ptr : Byte) (d : Word16) : 0 < (bytesOf op ptr d).length := by
  unfold bytesOf
  split_ifs <;> simp

theorem errOf_legal (st : Byte) : -2550 ≤ (errOf st).toInt ∧ (errOf st).toInt ≤ 0 ∧ (errOf st).toInt % 10 = 0 := by
  have hst := st.isLt
  rw [errOf_toInt]
  omega

/-! ## Every step keeps it -/

/-- Each event leads to a control point of the command's own phases, or completes with a legal error. -/
theorem StateInv.after_sequencerStep {s t : State} {i : Instr} (h : StateInv s) (hb : s.busy = true)
    (hst : sequencerStep (finishOf i) s = .next t) : StateInv t := by
  rcases sequencerStep_cases hst with rfl | ⟨hs, -, rfl⟩ | ⟨b, hs, hbyte, -, rfl⟩ | ⟨st, hs, -, rfl⟩ | ⟨hs, -, rfl⟩
    | ⟨c, hs, -, rfl⟩ | ⟨hs, -, rfl⟩ | ⟨b0, b1, hs, -, rfl⟩
  · exact h
  · rw [goTo_setK_eq_goesOnAfter]
    exact h.after_goingOn hb _ nofun (fun _ => h.phase.1 (by rw [hs]; rfl)) nofun (fun _ => bytesOf_length_pos ..) (by simp)
  · have hk := h.byteIndex hs
    have hw : s.seqOp ≠ OpCode.rdword := h.phase.1 (by rw [hs]; rfl)
    rw [afterWrite_eq, goTo_setK_eq_goesOnAfter]
    simp only [setK_seqK, setK_seqState, emit_seqState, takeAnswer_seqState, hs, next_byteIndex hk]
    split_ifs
    · exact h.after_goingOn hb _ nofun (fun _ => hw) nofun nofun (by simp)
    · refine h.after_goingOn hb _ nofun (fun _ => hw) nofun (fun _ => ?_) (by simp)
      rw [next_byteIndex hk]
      omega
  · rcases afterEnd_cases st (emit (.endTx Config.endStop st) (takeAnswer s)) with ⟨he, -⟩ | ⟨he, -, hr⟩ <;> rw [he]
    · refine stateInv_complete ?_ rfl (errOf_legal st) (by decide) (fun _ => ⟨rfl, rfl⟩) (.inl rfl)
      exact h.lastCmd
    · rw [goTo_eq_goesOnAfter]
      exact h.after_goingOn hb _ nofun nofun (fun _ => hr) nofun (by simp)
  · rw [goTo_setPolls_eq_goesOnAfter]
    exact h.after_goingOn hb _ nofun nofun (fun _ => h.phase.2 (by rw [hs]; rfl)) nofun (fun _ => by decide)
  · have hn := h.polls (.inl hs)
    have hr : hasRead s.seqOp = true := h.phase.2 (by rw [hs]; rfl)
    rw [goTo_eq_goesOnAfter]
    split_ifs
    · exact h.after_goingOn hb _ nofun nofun (fun _ => hr) nofun (fun _ => hn)
    · exact h.after_goingOn hb _ nofun nofun (fun _ => hr) nofun (fun _ => hn)
  · have hn := next_polls (h.polls (.inr (.inl hs)))
    have hlt := h.polls (.inr (.inl hs))
    unfold afterWait
    split_ifs with hc
    · refine stateInv_finishOf i ?_ rfl (by decide) hc.le fun _ => rfl
      exact h.lastCmd
    · rw [goTo_setPolls_eq_goesOnAfter]
      refine h.after_goingOn hb _ nofun nofun (fun _ => h.phase.2 (by rw [hs]; rfl)) nofun (fun _ => ?_)
      rw [setPolls_seqPolls] at hc
      omega
  · refine stateInv_finishOf i ?_ rfl (by decide) (h.polls (.inr (.inr hs))).le fun he => absurd rfl he
    exact h.lastCmd

theorem StateInv.after_writeReg {s t : State} (h : StateInv s) {off : Offset} {v : Word32}
    (hw : writeReg off v s = .next t) : StateInv t := by
  rcases writeReg_cases hw with rfl | ⟨-, rfl⟩ | ⟨-, -, rfl⟩ | ⟨-, -, rfl⟩ | ⟨-, -, -, rfl⟩ | ⟨i, -, hb, hv, hd, rfl⟩
  · exact h
  · exact h.after_writeStatus v
  · exact h.after_setDevAddr v
  · exact h.after_raiseOverrun
  · exact h.after_raiseIllegal
  · exact h.after_accept hb hv ((legal_iff_encoding _).2 ⟨i, rfl⟩)

theorem StateInv.after_hostTurn {s t : State} (h : StateInv s) (hh : hostTurn s = .next t) : StateInv t := by
  rcases hostTurn_cases hh with ⟨-, rfl⟩ | ⟨off, p, rfl⟩ | ⟨off, v, p, -, hw⟩
  · exact h
  · exact (h.after_setProgram p).after_logRead off
  · exact (h.after_setProgram p).after_writeReg hw

theorem stateInv_resetBlock (s : State) : StateInv (resetBlock s) :=
  resetStateSatisfiesTheInvariant.of_unread false false s.program s.schedule s.trace s.reads

theorem StateInv.after_step {s t : State} (h : StateInv s) (hst : step s = .next t) : StateInv t := by
  rcases step_next_cases hst with ⟨ts, -, rfl⟩ | ⟨ts, -, hh⟩ | ⟨u, hu, ht⟩
  · exact stateInv_resetBlock _
  · exact (h.after_setSchedule ts).after_hostTurn hh
  · have hinv : StateInv u ∧ u.seqState = s.seqState := by
      rcases hu with rfl | ⟨ts, rfl⟩
      · exact ⟨h, rfl⟩
      · exact ⟨h.after_setSchedule ts, rfl⟩
    obtain ⟨hu, hus⟩ := hinv
    rcases ht with rfl | ⟨a, -, hf, rfl, -⟩ | ⟨hb, i, -, hseq⟩
    · exact hu
    · exact hu.after_giveAnswer (hus ▸ hf)
    · exact hu.after_sequencerStep hb hseq

/-- Settles O41: each kind of step keeps the invariant. -/
theorem everyStepKeepsTheInvariant : Obligations.EveryStepKeepsTheInvariant := by
  unfold Obligations.EveryStepKeepsTheInvariant
  exact fun s t h => h.after_step

/-! ## A state with the invariant does not fault (R180, R196) -/

/-- The answers each control point takes (R40). -/
theorem answerFits_cases {c : Control} {a : Answer} (h : answerFits c a = true) :
    (a = .returned ∧ (c = .wbegin ∨ c = .wbyte ∨ c = .rreq)) ∨ (∃ st, c = .wend ∧ a = .status st)
      ∨ (∃ n, c = .rpoll ∧ a = .count n) ∨ (c = .rwait ∧ a = .waited) ∨ ∃ b0 b1, c = .rread ∧ a = .bytes b0 b1 := by
  unfold answerFits at h
  split at h <;> simp_all

theorem finishOf_trace (i : Instr) {w e : Word16} (n : Byte) (s : State) (hw : e ≠ 0#16 → w = 0#16) :
    (finishOf i w e n s).trace = s.trace := by
  obtain ⟨w', c, n', h, -⟩ := finishOf_is_complete i w e n s hw
  rw [h, complete_trace]

theorem afterEnd_trace (st : Byte) (s : State) : (afterEnd st s).trace = s.trace := by
  rcases afterEnd_cases st s with ⟨h, -⟩ | ⟨h, -⟩ <;> rw [h]
  · exact complete_trace ..
  · exact goTo_trace ..

theorem afterWait_trace (i : Instr) (s : State) : (afterWait (finishOf i) s).trace = s.trace := by
  unfold afterWait
  split_ifs
  · exact finishOf_trace i _ s fun _ => rfl
  · exact goTo_trace ..

/-- A waiting answer is one the control point takes, and at WBYTE there is a byte, so the sequencer's step is an event. -/
theorem StateInv.sequencerStep_takes_answer {s : State} (h : StateInv s) (i : Instr) {a : Answer}
    (ha : s.answer = some a) : ∃ t e, sequencerStep (finishOf i) s = .next t ∧ t.trace = s.trace ++ [e] := by
  rcases answerFits_cases (h.answer a ha) with ⟨rfl, hs | hs | hs⟩ | ⟨st, hs, rfl⟩ | ⟨n, hs, rfl⟩ | ⟨hs, rfl⟩
    | ⟨b0, b1, hs, rfl⟩
  · exact ⟨_, _, sequencerStep_of_begin _ hs ha, rfl⟩
  · obtain ⟨b, hb⟩ := h.byte_at_wbyte hs
    exact ⟨_, _, sequencerStep_of_byte _ hs ha hb, rfl⟩
  · exact ⟨_, _, sequencerStep_of_request _ hs ha, rfl⟩
  · exact ⟨_, _, sequencerStep_of_end _ hs ha, afterEnd_trace ..⟩
  · exact ⟨_, _, sequencerStep_of_check _ hs ha, rfl⟩
  · exact ⟨_, _, sequencerStep_of_wait _ hs ha, afterWait_trace ..⟩
  · exact ⟨_, _, sequencerStep_of_read _ hs ha, finishOf_trace i _ _ fun he => absurd rfl he⟩

theorem StateInv.sequencerStep_answers {s : State} (h : StateInv s) (hb : s.busy = true) (i : Instr) :
    ∃ t, sequencerStep (finishOf i) s = .next t := by
  cases ha : s.answer with
  | none =>
    obtain ⟨p, hp⟩ := h.outstanding_of_busy hb
    exact ⟨s, sequencerStep_of_no_answer _ hp ha⟩
  | some a =>
    obtain ⟨t, e, ht, -⟩ := h.sequencerStep_takes_answer i ha
    exact ⟨t, ht⟩

theorem StateInv.sequencerTurn_answers {s : State} (h : StateInv s) : ∃ t, sequencerTurn s = .next t := by
  cases hb : s.busy with
  | false => exact ⟨s, by rw [sequencerTurn, if_neg (by simp [hb])]⟩
  | true =>
    obtain ⟨i, hi⟩ := h.decodes hb
    rw [sequencerTurn_of_busy hb hi, exec_of_busy i s hb]
    exact h.sequencerStep_answers hb i

/-- A host turn goes on, or is an access that R63 leaves undefined. -/
theorem hostTurn_answers_or_refuses (s : State) :
    (∃ t, hostTurn s = .next t) ∨ hostTurn s = .refused .undefinedHostAccess := by
  unfold hostTurn
  split
  · exact .inl ⟨_, rfl⟩
  · unfold memRead
    split_ifs
    · exact .inl ⟨_, rfl⟩
    · exact .inr rfl
  · unfold memWrite
    split_ifs
    · exact .inl (writeReg_answers ..)
    · exact .inr rfl
  · exact .inl ⟨_, memRead_aligned (by decide) _⟩

theorem seqState_of_outstanding_read {s : State} {n : Byte} (h : outstanding s = some (.read n)) : s.seqState = .rread := by
  unfold outstanding at h
  split at h <;> simp_all

/-- A transport turn goes on, or answers a read with other than two bytes (R41). -/
theorem transportTurn_answers_or_refuses (d : Draw) (s : State) :
    (∃ t, transportTurn d s = .next t)
      ∨ (transportTurn d s = .refused .readNotTwoBytes ∧ s.seqState = .rread ∧ d.bytes.length ≠ 2) := by
  cases ha : s.answer with
  | some a => exact .inl ⟨s, by rw [transportTurn, ha]⟩
  | none =>
    cases ho : outstanding s with
    | none => exact .inl ⟨s, by simp only [transportTurn, ha, ho]⟩
    | some p =>
      rw [transportTurn_of_outstanding d ha ho]
      cases p with
      | read n =>
        by_cases hd : d.bytes.length = 2
        · obtain ⟨b0, b1, hb⟩ := List.length_eq_two.1 hd
          exact .inl ⟨_, answerPrimitive_read_of_two hb n s⟩
        · exact .inr ⟨answerPrimitive_read_of_other hd n s, seqState_of_outstanding_read ho, hd⟩
      | _ => exact .inl ⟨_, rfl⟩

theorem timerTurn_answers (s : State) : ∃ t, timerTurn s = .next t := by
  rcases timerTurn_cases s with h | ⟨-, -, h⟩ <;> exact ⟨_, h⟩

/-- Everything a step from a state with the invariant can answer. -/
theorem StateInv.step_answers_or_refuses {s : State} (h : StateInv s) :
    (∃ t, step s = .next t)
      ∨ (step s = .refused .undefinedHostAccess ∧ ∃ ts, s.schedule = .host :: ts)
      ∨ (step s = .refused .readNotTwoBytes ∧ s.seqState = .rread
          ∧ ∃ d ts, s.schedule = .transport d :: ts ∧ d.bytes.length ≠ 2) := by
  rcases step_cases s with ⟨-, hst⟩ | ⟨turn, ts, hsch, hst⟩ <;> rw [hst]
  · exact .inl h.sequencerTurn_answers
  · cases turn with
    | host => exact (hostTurn_answers_or_refuses _).imp_right fun hr => .inl ⟨hr, ts, hsch⟩
    | sequencer => exact .inl (h.after_setSchedule ts).sequencerTurn_answers
    | transport d =>
      exact (transportTurn_answers_or_refuses d _).imp_right fun ⟨hr, hs, hd⟩ => .inr ⟨hr, hs, d, ts, hsch, hd⟩
    | timer => exact .inl (timerTurn_answers _)
    | reset => exact .inl ⟨_, rfl⟩

/-- Settles O42: a step goes on, or is one of the two refused runs, and so never a fault. -/
theorem invariantStatesNeverFault : Obligations.InvariantStatesNeverFault := by
  unfold Obligations.InvariantStatesNeverFault
  intro s h
  rcases h.step_answers_or_refuses with ⟨t, ht⟩ | ⟨hr, hh⟩ | ⟨hr, hs, hd⟩
  · rw [ht]
    exact ⟨nofun, nofun⟩
  · rw [hr]
    refine ⟨nofun, fun r he => .inl ⟨?_, hh⟩⟩
    injection he with he
    exact he.symm
  · rw [hr]
    refine ⟨nofun, fun r he => .inr ⟨?_, hs, hd⟩⟩
    injection he with he
    exact he.symm

/-! ## A primitive that never returns (R41 (a), R196) -/

/-- What stays while the outstanding primitive does not return. -/
abbrev StuckAt (s t : State) : Prop :=
  t.busy = true ∧ t.answer = none ∧ t.seqState = s.seqState ∧ outstanding t = outstanding s ∧ t.trace = s.trace
    ∧ t.lastCmd = s.lastCmd ∧ t.err = s.err ∧ t.word = s.word ∧ t.luxCenti = s.luxCenti ∧ t.luxF32 = s.luxF32
    ∧ t.pollCnt = s.pollCnt

theorem stuckAt_of_hostTurn {s t : State} (hb : s.busy = true) (ha : s.answer = none) (h : hostTurn s = .next t) :
    StuckAt s t := by
  obtain ⟨d, il, ov, p, rs, rfl⟩ := hostTurn_of_busy hb h
  exact ⟨hb, ha, rfl, rfl, rfl, rfl, rfl, rfl, rfl, rfl, rfl⟩

/-- Without an answer the sequencer's step has no event to take. -/
theorem sequencerStep_unanswered {i : Instr} {s t : State} (h : sequencerStep (finishOf i) s = .next t)
    (ha : s.answer = none) : t = s := by
  rcases sequencerStep_cases h with rfl | ⟨-, he, -⟩ | ⟨b, -, -, he, -⟩ | ⟨st, -, he, -⟩ | ⟨-, he, -⟩ | ⟨c, -, he, -⟩
    | ⟨-, he, -⟩ | ⟨b0, b1, -, he, -⟩
  · rfl
  all_goals simp [ha] at he

/-- Settles O29: of the steps left, a host turn cannot disturb the command and the sequencer waits. -/
theorem primitiveThatNeverReturnsIsStuck : Obligations.PrimitiveThatNeverReturnsIsStuck := by
  unfold Obligations.PrimitiveThatNeverReturnsIsStuck
  refine ⟨fun s t _ hb ha hreset hturn hst => ?_, fun s h hb ha hsch => ?_⟩
  · rcases step_next_cases hst with ⟨ts, hs, -⟩ | ⟨ts, -, hh⟩ | ⟨u, hu, ht⟩
    · exact absurd hs (hreset ts)
    · exact stuckAt_of_hostTurn (s := setSchedule ts s) hb ha hh
    · have hstay : ∀ u, (u = s ∨ ∃ ts, u = setSchedule ts s) → u.answer = none ∧ StuckAt s u := by
        rintro u (rfl | ⟨ts, rfl⟩) <;> exact ⟨ha, hb, ha, rfl, rfl, rfl, rfl, rfl, rfl, rfl, rfl, rfl⟩
      obtain ⟨hua, hus⟩ := hstay u hu
      rcases ht with rfl | ⟨a, -, -, -, ⟨hs, d, ts, hd⟩ | ⟨hs, ts, hd⟩⟩ | ⟨-, i, -, hseq⟩
      · exact hus
      · rcases hturn with ⟨-, hn⟩ | ⟨hs', -⟩
        · exact absurd hd (hn d ts)
        · exact absurd hs' hs
      · rcases hturn with ⟨hs', -⟩ | ⟨-, hn⟩
        · exact absurd hs hs'
        · exact absurd hd (hn ts)
      · rw [sequencerStep_unanswered hseq hua]
        exact hus
  · obtain ⟨i, hi⟩ := h.decodes hb
    obtain ⟨p, hp⟩ := h.outstanding_of_busy hb
    rw [step_of_no_schedule hsch, sequencerTurn_of_busy hb hi, exec_of_busy i s hb, sequencerStep_of_no_answer _ hp ha]

end Sys2Proof.Machine
end

section
/-! PROOFS. Every event brings the end of the command nearer, and under fair turns the command completes
(70_reset_and_hazards.md R217). -/

namespace Sys2Proof.Machine

/-! ## The measure (R111) -/

/-- A command with a read phase writes its pointer alone. -/
theorem bytesOf_of_hasRead {op : Op} (h : hasRead op = true) (ptr : Byte) (d : Word16) : bytesOf op ptr d = [ptr] := by
  have hop : ¬(op = OpCode.wrword ∨ op = OpCode.wrcfg) := by
    revert op
    decide
  exact if_neg hop

/-- The most events from the end of a write phase on. -/
def endEvents (op : Op) : Nat := 1 + if hasRead op then 1 + 2 * Config.pollCeiling else 0

theorem endEvents_of_hasRead {op : Op} (h : hasRead op = true) : endEvents op = 502 := by
  rw [endEvents, if_pos h]
  rfl

theorem endEvents_pos (op : Op) : 0 < endEvents op := by
  rw [endEvents]
  omega

/-- A command that has both phases writes its pointer alone. -/
theorem bytesOf_length_add_endEvents_le (op : Op) (ptr : Byte) (d : Word16) :
    (bytesOf op ptr d).length + endEvents op ≤ 503 := by
  cases hr : hasRead op with
  | true => rw [bytesOf_of_hasRead hr, endEvents_of_hasRead hr, List.length_singleton]
  | false =>
    have := bytesOf_length_le op ptr d
    simp only [endEvents, hr, Bool.false_eq_true, if_false]
    omega

section
variable {s : State}

theorem eventsLeft_of_idle (h : s.seqState = .idle) : eventsLeft s = 0 := by
  rw [eventsLeft, h]

theorem eventsLeft_of_wbegin (h : s.seqState = .wbegin) :
    eventsLeft s = 1 + (bytesOf s.seqOp s.seqPtr s.seqData).length + endEvents s.seqOp := by
  rw [eventsLeft, h]
  rfl

theorem eventsLeft_of_wbyte (h : s.seqState = .wbyte) :
    eventsLeft s = (bytesOf s.seqOp s.seqPtr s.seqData).length - s.seqK.toNat + endEvents s.seqOp := by
  rw [eventsLeft, h]
  rfl

theorem eventsLeft_of_wend (h : s.seqState = .wend) : eventsLeft s = endEvents s.seqOp := by
  rw [eventsLeft, h]
  rfl

theorem eventsLeft_of_rreq (h : s.seqState = .rreq) : eventsLeft s = 501 := by
  rw [eventsLeft, h]
  rfl

theorem eventsLeft_of_rpoll (h : s.seqState = .rpoll) : eventsLeft s = 2 * (Config.pollCeiling - s.seqPolls.toNat) := by
  rw [eventsLeft, h]

theorem eventsLeft_of_rwait (h : s.seqState = .rwait) :
    eventsLeft s = 2 * (Config.pollCeiling - s.seqPolls.toNat) - 1 := by
  rw [eventsLeft, h]

theorem eventsLeft_of_rread (h : s.seqState = .rread) : eventsLeft s = 1 := by
  rw [eventsLeft, h]

theorem eventsLeft_le (s : State) : eventsLeft s ≤ 504 := by
  have hphases := bytesOf_length_add_endEvents_le s.seqOp s.seqPtr s.seqData
  have hceil : Config.pollCeiling = 250 := rfl
  cases hs : s.seqState with
  | idle => rw [eventsLeft_of_idle hs]; omega
  | wbegin => rw [eventsLeft_of_wbegin hs]; omega
  | wbyte => rw [eventsLeft_of_wbyte hs]; omega
  | wend => rw [eventsLeft_of_wend hs]; omega
  | rreq => rw [eventsLeft_of_rreq hs]; omega
  | rpoll => rw [eventsLeft_of_rpoll hs]; omega
  | rwait => rw [eventsLeft_of_rwait hs]; omega
  | rread => rw [eventsLeft_of_rread hs]; omega

theorem StateInv.eventsLeft_pos (h : StateInv s) (hb : s.busy = true) : 0 < eventsLeft s := by
  have hend := endEvents_pos s.seqOp
  cases hs : s.seqState with
  | idle => exact absurd hs (h.busy.1 hb)
  | wbegin => rw [eventsLeft_of_wbegin hs]; omega
  | wbyte => rw [eventsLeft_of_wbyte hs]; omega
  | wend => rw [eventsLeft_of_wend hs]; omega
  | rreq => rw [eventsLeft_of_rreq hs]; omega
  | rpoll => have := h.polls (.inl hs); rw [eventsLeft_of_rpoll hs]; omega
  | rwait => have := h.polls (.inr (.inl hs)); rw [eventsLeft_of_rwait hs]; omega
  | rread => rw [eventsLeft_of_rread hs]; omega

/-- Each event moves to a control point with fewer events left, or to IDLE with none. -/
theorem StateInv.eventsLeft_decreases {t : State} {i : Instr} (h : StateInv s) (hb : s.busy = true)
    (hst : sequencerStep (finishOf i) s = .next t) (htr : t.trace ≠ s.trace) : eventsLeft t < eventsLeft s := by
  have hpos := h.eventsLeft_pos hb
  rcases sequencerStep_cases hst with rfl | ⟨hs, -, rfl⟩ | ⟨b, hs, hbyte, -, rfl⟩ | ⟨st, hs, -, rfl⟩ | ⟨hs, -, rfl⟩
    | ⟨c, hs, -, rfl⟩ | ⟨hs, -, rfl⟩ | ⟨b0, b1, hs, -, rfl⟩
  · exact absurd rfl htr
  · rw [goTo_setK_eq_goesOnAfter, eventsLeft_of_wbyte rfl, eventsLeft_of_wbegin hs]
    simp only [goesOnAfter, BitVec.toNat_ofNat]
    omega
  · have hk := h.byteIndex hs
    rw [afterWrite_eq, goTo_setK_eq_goesOnAfter, setK_seqState, emit_seqState, takeAnswer_seqState, hs,
      eventsLeft_of_wbyte hs]
    split_ifs
    · rw [eventsLeft_of_wend rfl]
      simp only [goesOnAfter]
      omega
    · rw [eventsLeft_of_wbyte rfl]
      simp only [goesOnAfter, next_byteIndex hk]
      omega
  · rcases afterEnd_cases st (emit (.endTx Config.endStop st) (takeAnswer s)) with ⟨he, -⟩ | ⟨he, -, hr⟩ <;> rw [he]
    · rwa [eventsLeft_of_idle (complete_seqState ..)]
    · rw [goTo_eq_goesOnAfter, eventsLeft_of_rreq rfl, eventsLeft_of_wend hs, endEvents_of_hasRead (op := s.seqOp) hr]
      omega
  · rw [goTo_setPolls_eq_goesOnAfter, eventsLeft_of_rpoll rfl, eventsLeft_of_rreq hs]
    exact Nat.lt_succ_self _
  · have hn := h.polls (.inl hs)
    rw [goTo_eq_goesOnAfter, eventsLeft_of_rpoll hs]
    split_ifs
    · rw [eventsLeft_of_rread rfl]
      omega
    · rw [eventsLeft_of_rwait rfl]
      simp only [goesOnAfter]
      omega
  · have hlt := h.polls (.inr (.inl hs))
    unfold afterWait
    split_ifs
    · rwa [eventsLeft_of_idle (finishOf_seqState i _ _ fun _ => rfl)]
    · rw [goTo_setPolls_eq_goesOnAfter, eventsLeft_of_rpoll rfl, eventsLeft_of_rwait hs]
      simp only [goesOnAfter, next_polls hlt]
      omega
  · rwa [eventsLeft_of_idle (finishOf_seqState i _ _ fun he => absurd rfl he)]

end

/-- Settles O47: the measure is bounded at its largest control point, and every event lowers it. -/
theorem everyEventBringsTheEndNearer : Obligations.EveryEventBringsTheEndNearer := by
  unfold Obligations.EveryEventBringsTheEndNearer
  intro s h hb
  refine ⟨eventsLeft_le s, fun i t _ hst htr => ?_⟩
  rw [exec_of_busy i s hb] at hst
  exact h.eventsLeft_decreases hb hst htr

/-! ## One fair round (R217) -/

theorem runSteps_succ {s u : State} (h : step s = .next u) (n : Nat) : runSteps (n + 1) s = runSteps n u := by
  rw [runSteps, h]

theorem runSteps_cons {s u : State} {turn : Turn} {ts : List Turn} (hsch : s.schedule = turn :: ts)
    (h : takeTurn turn (setSchedule ts s) = .next u) (n : Nat) : runSteps (n + 1) s = runSteps n u :=
  runSteps_succ ((step_of_schedule hsch).trans h) n

theorem runSteps_setSchedule {s u : State} {turn : Turn} {ts : List Turn}
    (h : takeTurn turn (setSchedule ts s) = .next u) (n : Nat) :
    runSteps (n + 1) (setSchedule (turn :: ts) s) = runSteps n u :=
  runSteps_cons (s := setSchedule (turn :: ts) s) rfl h n

theorem giveAnswer_self {s : State} {a : Answer} (ha : s.answer = some a) : giveAnswer a s = s := by
  rw [giveAnswer, ← ha]

theorem transportTurn_of_answered {s : State} {a : Answer} (ha : s.answer = some a) (d : Draw) :
    transportTurn d s = .next s := by
  rw [transportTurn, ha]

theorem timerTurn_of_answered {s : State} {a : Answer} (ha : s.answer = some a) : timerTurn s = .next s := by
  simp only [timerTurn, ha]

theorem transportTurn_of_idle {s : State} (ha : s.answer = none) (hs : s.seqState = .idle) (d : Draw) :
    transportTurn d s = .next s := by
  simp only [transportTurn, ha, outstanding, hs]

theorem timerTurn_of_idle {s : State} (ha : s.answer = none) (hs : s.seqState = .idle) : timerTurn s = .next s := by
  simp only [timerTurn, ha, outstanding, hs]

theorem transportTurn_of_rwait {s : State} (ha : s.answer = none) (hs : s.seqState = .rwait) (d : Draw) :
    transportTurn d s = .next s :=
  transportTurn_of_outstanding d ha (outstanding_of_rwait hs)

/-- A transport that keeps R41 (d) answers whatever primitive is outstanding, but for a wait. -/
theorem StateInv.transportTurn_gives_answer {s : State} (h : StateInv s) (hb : s.busy = true) (ha : s.answer = none)
    (hwait : s.seqState ≠ .rwait) {d : Draw} (hd : DrawsTwoBytes d) :
    ∃ a, answerFits s.seqState a = true ∧ transportTurn d s = .next (giveAnswer a s) := by
  obtain ⟨hbegin, hbyte, hreq, hend, hpoll, hread, -, -⟩ := answersAreTheDraws s d ha
  cases hs : s.seqState with
  | idle => exact absurd hs (h.busy.1 hb)
  | wbegin => exact ⟨_, rfl, hbegin hs⟩
  | wbyte =>
    obtain ⟨b, hb⟩ := h.byte_at_wbyte hs
    exact ⟨_, rfl, hbyte b hs hb⟩
  | wend => exact ⟨_, rfl, hend hs⟩
  | rreq => exact ⟨_, rfl, hreq hs⟩
  | rpoll => exact ⟨_, rfl, hpoll hs⟩
  | rwait => exact absurd hs hwait
  | rread =>
    obtain ⟨b0, b1, hb⟩ := List.length_eq_two.1 hd
    exact ⟨_, rfl, hread hs b0 b1 hb⟩

/-- After a turn of the transport and one of the timer the outstanding primitive has returned. -/
theorem StateInv.answered_after_two_turns {s : State} (h : StateInv s) (hb : s.busy = true) {d : Draw}
    (hd : DrawsTwoBytes d) {ts : List Turn} (hsch : s.schedule = .transport d :: .timer :: ts) (n : Nat) :
    ∃ a, answerFits s.seqState a = true ∧ runSteps (n + 2) s = runSteps n (giveAnswer a (setSchedule ts s)) := by
  cases ha : s.answer with
  | some a =>
    refine ⟨a, h.answer a ha, ?_⟩
    rw [runSteps_cons hsch (transportTurn_of_answered (s := setSchedule (.timer :: ts) s) ha d),
      runSteps_setSchedule (turn := .timer) (timerTurn_of_answered (s := setSchedule ts s) ha),
      giveAnswer_self (s := setSchedule ts s) ha]
  | none =>
    by_cases hs : s.seqState = .rwait
    · refine ⟨.waited, by rw [hs], ?_⟩
      rw [runSteps_cons hsch (transportTurn_of_rwait (s := setSchedule (.timer :: ts) s) ha hs d),
        runSteps_setSchedule (turn := .timer) (timerTurn_of_rwait (s := setSchedule ts s) ha hs)]
    · obtain ⟨a, hf, hturn⟩ := (h.after_setSchedule (.timer :: ts)).transportTurn_gives_answer hb ha hs hd
      refine ⟨a, hf, ?_⟩
      rw [runSteps_cons hsch hturn]
      exact runSteps_setSchedule (turn := .timer) (s := giveAnswer a s)
        (timerTurn_of_answered (s := giveAnswer a (setSchedule ts s)) (giveAnswer_answer a _)) n

/-- One event, whatever it is, keeps LASTCMD and the schedule, and leaves BUSY = 1 or completes. -/
theorem sequencerStep_keeps_command {i : Instr} {s t : State} (hb : s.busy = true)
    (h : sequencerStep (finishOf i) s = .next t) :
    t.lastCmd = s.lastCmd ∧ t.schedule = s.schedule ∧ (t.busy = true ∨ (t.busy = false ∧ t.done = true)) := by
  rcases sequencerStep_event h with rfl | ⟨e, -, ⟨c, k, n, rfl⟩ | ⟨r, k, n, w, rfl⟩⟩
  · exact ⟨rfl, rfl, .inl hb⟩
  · exact ⟨rfl, rfl, .inl hb⟩
  · exact ⟨rfl, rfl, .inr ⟨rfl, rfl⟩⟩

/-- A fair round takes one event of the command in flight. -/
theorem StateInv.fair_round {s : State} (h : StateInv s) (hb : s.busy = true) {d : Draw} (hd : DrawsTwoBytes d)
    {ts : List Turn} (hsch : s.schedule = roundTurns d ++ ts) (n : Nat) :
    ∃ t, runSteps (n + 3) s = runSteps n t ∧ StateInv t ∧ eventsLeft t < eventsLeft s ∧ t.lastCmd = s.lastCmd
      ∧ t.schedule = ts ∧ (t.busy = true ∨ (t.busy = false ∧ t.done = true)) := by
  obtain ⟨a, hf, hrun⟩ := h.answered_after_two_turns hb hd hsch (n + 1)
  obtain ⟨i, hi⟩ := h.decodes hb
  have hinv : StateInv (giveAnswer a (setSchedule ts s)) := (h.after_setSchedule ts).after_giveAnswer hf
  obtain ⟨t, e, ht, htr⟩ := hinv.sequencerStep_takes_answer i (giveAnswer_answer a _)
  have hturn : takeTurn .sequencer (giveAnswer a (setSchedule ts s)) = .next t := by
    rw [takeTurn, sequencerTurn_of_busy (s := giveAnswer a (setSchedule ts s)) hb hi,
      exec_of_busy i (giveAnswer a (setSchedule ts s)) hb, ht]
  obtain ⟨hl, hsc, hbusy⟩ := sequencerStep_keeps_command (s := giveAnswer a (setSchedule ts s)) hb ht
  refine ⟨t, ?_, hinv.after_sequencerStep hb ht, hinv.eventsLeft_decreases hb ht (by rw [htr]; simp), hl, hsc, hbusy⟩
  rw [hrun, runSteps_cons rfl hturn]

/-- A round of an idle block does nothing but pass. -/
theorem StateInv.idle_round {s : State} (h : StateInv s) (hb : s.busy = false) {d : Draw} {ts : List Turn}
    (hsch : s.schedule = roundTurns d ++ ts) (n : Nat) : runSteps (n + 3) s = runSteps n (setSchedule ts s) := by
  have hs := h.seqState_of_idle hb
  have ha := h.answer_of_idle hs
  have hseq : sequencerTurn (setSchedule ts s) = .next (setSchedule ts s) := if_neg (by simp [hb])
  rw [runSteps_cons hsch (transportTurn_of_idle (s := setSchedule (.timer :: .sequencer :: ts) s) ha hs d),
    runSteps_setSchedule (turn := .timer) (timerTurn_of_idle (s := setSchedule (.sequencer :: ts) s) ha hs),
    runSteps_setSchedule (turn := .sequencer) hseq]

/-- Rounds for as many events as are left, or more, complete the command, and do nothing after that. -/
theorem StateInv.fair_rounds {s : State} (h : StateInv s) (hb : s.busy = true ∨ (s.busy = false ∧ s.done = true))
    {ds : List Draw} (hds : ∀ d ∈ ds, DrawsTwoBytes d) (hlen : eventsLeft s ≤ ds.length) {ts : List Turn}
    (hsch : s.schedule = ds.flatMap roundTurns ++ ts) :
    ∃ t, runSteps (3 * ds.length) s = .next t ∧ t.busy = false ∧ t.done = true ∧ t.lastCmd = s.lastCmd
      ∧ t.schedule = ts := by
  induction ds generalizing s with
  | nil =>
    have hidle : ¬s.busy = true := fun hbusy => (h.eventsLeft_pos hbusy).not_ge hlen
    obtain ⟨hb0, hd⟩ := hb.resolve_left hidle
    exact ⟨s, rfl, hb0, hd, rfl, hsch⟩
  | cons d ds ih =>
    obtain ⟨hd, hds⟩ := List.forall_mem_cons.1 hds
    rw [List.flatMap_cons, List.append_assoc] at hsch
    rw [List.length_cons] at hlen ⊢
    rw [Nat.mul_succ]
    rcases hb with hb | ⟨hb, hdone⟩
    · obtain ⟨u, hrun, hinv, hless, hl, hsc, hub⟩ := h.fair_round hb hd hsch (3 * ds.length)
      rw [hrun, ← hl]
      exact ih hinv hub hds (by omega) hsc
    · have hleft : eventsLeft (setSchedule (ds.flatMap roundTurns ++ ts) s) = 0 :=
        eventsLeft_of_idle (h.seqState_of_idle hb)
      rw [h.idle_round hb hsch]
      exact ih (h.after_setSchedule _) (.inr ⟨hb, hdone⟩) hds (by omega) rfl

/-- Settles O48: a round takes one event, of which there are as many left as rounds. -/
theorem fairRoundsCompleteTheCommand : Obligations.FairRoundsCompleteTheCommand := by
  unfold Obligations.FairRoundsCompleteTheCommand
  exact fun s ds ts h hb hds hlen hsch => h.fair_rounds (.inl hb) hds hlen.ge hsch

end Sys2Proof.Machine
end

section
/-! PROOFS. The commands as whole procedures: the bounded poll (40_bus_transaction.md R104), how a procedure ends, and the
statements on its events and its results (R111, R151, R152, R212). -/

namespace Sys2Proof.Machine

/-! ## The bounded poll (R104) -/

/-- The events of poll iterations that find fewer than two bytes. -/
def pollWaits (counts : List Byte) : List BusEvent := counts.flatMap fun c => [.avail c, .wait Config.pollIntervalMs]

@[simp] theorem pollWaits_nil : pollWaits [] = [] := rfl

@[simp] theorem pollWaits_cons (c : Byte) (cs : List Byte) :
    pollWaits (c :: cs) = .avail c :: .wait Config.pollIntervalMs :: pollWaits cs := rfl

theorem pollWaits_append (cs cs' : List Byte) : pollWaits (cs ++ cs') = pollWaits cs ++ pollWaits cs' :=
  List.flatMap_append

theorem pollWaits_length (cs : List Byte) : (pollWaits cs).length = 2 * cs.length := by
  induction cs with
  | nil => rfl
  | cons c cs ih =>
    simp only [pollWaits_cons, List.length_cons, ih]
    omega

theorem pollLoop_of_early {c : Byte} (h : c.toNat < 2) (left polls : Nat) (cs : List Byte) :
    pollLoop (left + 1) polls (c :: cs)
      = (pollLoop left (polls + 1) cs).map fun r => (.avail c :: .wait Config.pollIntervalMs :: r.1, r.2) := by
  rw [pollLoop, if_neg (by omega)]

/-- A check that finds two bytes ends the poll, with the iterations before it as its count. -/
theorem pollLoop_ready {early : List Byte} {c : Byte} (late : List Byte) (hearly : ∀ e ∈ early, e.toNat < 2)
    (hc : 2 ≤ c.toNat) {left : Nat} (hlen : early.length < left) (polls : Nat) :
    pollLoop left polls (early ++ c :: late) = some (pollWaits early ++ [BusEvent.avail c], .ready (polls + early.length)) := by
  induction early generalizing left polls with
  | nil =>
    obtain ⟨left, rfl⟩ := Nat.exists_eq_add_one.2 hlen
    rw [List.nil_append, pollLoop, if_pos hc]
    rfl
  | cons e early ih =>
    obtain ⟨he, hearly⟩ := List.forall_mem_cons.1 hearly
    rw [List.length_cons] at hlen
    obtain ⟨left, rfl⟩ := Nat.exists_eq_add_one.2 (Nat.zero_lt_of_lt hlen)
    rw [List.cons_append, pollLoop_of_early he, ih hearly (by omega), List.length_cons, Nat.add_right_comm]
    rfl

/-- As many iterations as are left to the ceiling end the poll as a timeout, whatever counts follow. -/
theorem pollLoop_timeout {early : List Byte} (late : List Byte) (hearly : ∀ e ∈ early, e.toNat < 2) (polls : Nat) :
    pollLoop early.length polls (early ++ late) = some (pollWaits early, .timeout (polls + early.length)) := by
  induction early generalizing polls with
  | nil => rw [List.length_nil, pollLoop]; rfl
  | cons e early ih =>
    obtain ⟨he, hearly⟩ := List.forall_mem_cons.1 hearly
    rw [List.cons_append, List.length_cons, pollLoop_of_early he, ih hearly, Nat.add_right_comm]
    rfl

/-- A poll that ends is of one of the two kinds: a count of at least two after some smaller ones, or smaller ones up to the
ceiling. -/
theorem counts_of_pollLoop {left polls : Nat} {counts : List Byte} {r : List BusEvent × PollEnd}
    (h : pollLoop left polls counts = some r) :
    ∃ early, (∀ e ∈ early, e.toNat < 2) ∧
      ((∃ c late, counts = early ++ c :: late ∧ 2 ≤ c.toNat ∧ early.length < left)
        ∨ ∃ late, counts = early ++ late ∧ early.length = left) := by
  induction left generalizing polls counts r with
  | zero => exact ⟨[], nofun, .inr ⟨counts, rfl, rfl⟩⟩
  | succ left ih =>
    cases counts with
    | nil => cases h
    | cons c cs =>
      by_cases hc : 2 ≤ c.toNat
      · exact ⟨[], nofun, .inl ⟨c, cs, rfl, hc, Nat.succ_pos left⟩⟩
      · have hlt : c.toNat < 2 := by omega
        rw [pollLoop_of_early hlt, Option.map_eq_some_iff] at h
        obtain ⟨r', hr, -⟩ := h
        obtain ⟨early, hearly, ⟨d, late, rfl, hd, hlen⟩ | ⟨late, rfl, hlen⟩⟩ := ih hr
        · exact ⟨c :: early, List.forall_mem_cons.2 ⟨hlt, hearly⟩, .inl ⟨d, late, rfl, hd, Nat.succ_lt_succ hlen⟩⟩
        · exact ⟨c :: early, List.forall_mem_cons.2 ⟨hlt, hearly⟩, .inr ⟨late, rfl, congrArg Nat.succ hlen⟩⟩

/-! ## The read phase (R103 to R105) -/

/-- The read phase that reads after some poll iterations. -/
def readyRun (a : DevAddr) (early : List Byte) (c b0 b1 : Byte) : ReadRun :=
  ⟨BusEvent.request a Config.readCount :: pollWaits early ++ [BusEvent.avail c, BusEvent.read Config.readCount b0 b1],
    assembleWord b0 b1, 0#16, BitVec.ofNat 8 early.length⟩

/-- The read phase that ends at the ceiling. -/
def timeoutRun (a : DevAddr) (early : List Byte) : ReadRun :=
  ⟨.request a Config.readCount :: pollWaits early, 0#16, Config.timeoutCode, 250#8⟩

theorem readPhase_ready (a : DevAddr) {ans : Answers} {early : List Byte} {c : Byte} {late : List Byte}
    (hcounts : ans.counts = early ++ c :: late) (hearly : ∀ e ∈ early, e.toNat < 2) (hc : 2 ≤ c.toNat)
    (hlen : early.length < 250) : readPhase a ans = some (readyRun a early c ans.b0 ans.b1) := by
  rw [readPhase, hcounts, Config.pollCeiling, pollLoop_ready late hearly hc hlen]
  simp only [readyRun, Nat.zero_add, List.append_assoc, List.cons_append, List.nil_append]

theorem readPhase_timeout (a : DevAddr) {ans : Answers} {early late : List Byte} (hcounts : ans.counts = early ++ late)
    (hearly : ∀ e ∈ early, e.toNat < 2) (hlen : early.length = 250) : readPhase a ans = some (timeoutRun a early) := by
  have hloop := pollLoop_timeout late hearly 0
  rw [hlen] at hloop
  rw [readPhase, hcounts, Config.pollCeiling, hloop]
  rfl

/-- A read phase that ends reads after fewer than 250 poll iterations, or times out after 250. -/
theorem readPhase_cases {a : DevAddr} {ans : Answers} {r : ReadRun} (h : readPhase a ans = some r) :
    ∃ early, (∀ e ∈ early, e.toNat < 2) ∧
      ((∃ c, 2 ≤ c.toNat ∧ early.length < 250 ∧ r = readyRun a early c ans.b0 ans.b1)
        ∨ (early.length = 250 ∧ r = timeoutRun a early)) := by
  cases hp : pollLoop Config.pollCeiling 0 ans.counts with
  | none => rw [readPhase, hp] at h; cases h
  | some p =>
    obtain ⟨early, hearly, ⟨c, late, hcounts, hc, hlen⟩ | ⟨late, hcounts, hlen⟩⟩ := counts_of_pollLoop hp
    · rw [readPhase_ready a hcounts hearly hc hlen, Option.some.injEq] at h
      exact ⟨early, hearly, .inl ⟨c, hc, hlen, h.symm⟩⟩
    · rw [readPhase_timeout a hcounts hearly hlen, Option.some.injEq] at h
      exact ⟨early, hearly, .inr ⟨hlen, h.symm⟩⟩

/-- Settles O51: the three cases are the two ends of the read phase, the first with no iteration before it. -/
theorem boundedPollTimesOutAtTheCeiling : Obligations.BoundedPollTimesOutAtTheCeiling := by
  unfold Obligations.BoundedPollTimesOutAtTheCeiling
  refine ⟨fun a ans c cs hcounts hc => ?_, fun a ans hlen hearly => ?_, fun a ans early c late hcounts hlen hearly hc => ?_,
    rfl⟩
  · exact readPhase_ready a (early := []) hcounts nofun hc (by decide)
  · exact readPhase_timeout a (List.take_append_drop 250 ans.counts).symm hearly (List.length_take_of_le hlen)
  · exact readPhase_ready a hcounts hearly hc hlen

/-! ## How a procedure ends (R106 to R109, R140 to R143) -/

/-- The results a command's completion makes of what its read phase gives (R108, R109, R140, R141, R143). -/
def valueOf (i : Instr) (r : ReadRun) : ResultRegs :=
  if (fieldsOf i).op = OpCode.rdword ∨ (fieldsOf i).op = OpCode.regrd then ⟨r.word, r.err, 0#27, 0x00000000#32, r.polls⟩
  else if r.err ≠ 0#16 then noValue r.err r.polls
  else if (fieldsOf i).op = OpCode.rdmeas then ⟨r.word, 0#16, centiOf r.word, f32Of r.word, r.polls⟩
  else ⟨r.word, 0#16, 0#27, 0x00000000#32, r.polls⟩

theorem valueOf_err (i : Instr) (r : ReadRun) : (valueOf i r).err = r.err := by
  unfold valueOf
  split_ifs with hword herr
  · rfl
  · rfl
  · exact (not_not.1 herr).symm
  · exact (not_not.1 herr).symm

theorem valueOf_pollCnt (i : Instr) (r : ReadRun) : (valueOf i r).pollCnt = r.polls := by
  unfold valueOf
  split_ifs <;> rfl

/-- The write phase of a command, with no events for RDWORD, which has none. -/
def writeEvents (i : Instr) (a : DevAddr) (st : Byte) : List BusEvent :=
  if (fieldsOf i).op = OpCode.rdword then []
  else writePhase a (bytesOf (fieldsOf i).op (fieldsOf i).ptr (fieldsOf i).data) st

theorem procedureOf_of_no_readPhase {i : Instr} (h : hasRead (fieldsOf i).op = false) (a : DevAddr) (ans : Answers) :
    procedureOf i a ans = some ⟨writeEvents i a ans.status, noValue (errOf ans.status) 0#8⟩ := by
  cases i with
  | wrwordConfig d => rfl
  | wrcfg d => rfl
  | wrcmdResult | wrcmdConfig | wrcmdLowlim | wrcmdHighlim | wrcmdMfrid | wrcmdDevid => rfl
  | _ => cases h

theorem procedureOf_rdword (a : DevAddr) (ans : Answers) :
    procedureOf .rdword a ans = (readPhase a ans).map fun r => ⟨r.events, valueOf .rdword r⟩ := rfl

/-- A command with both phases is the two in a row, unless the first fails (R109). -/
theorem procedureOf_of_both_phases {i : Instr} (h : hasRead (fieldsOf i).op = true) (hi : i ≠ .rdword) (a : DevAddr)
    (ans : Answers) : procedureOf i a ans = writeThenRead a (fieldsOf i).ptr ans (valueOf i) := by
  cases i with
  | rdword => exact absurd rfl hi
  | wrwordConfig d => cases h
  | wrcfg d => cases h
  | wrcmdResult | wrcmdConfig | wrcmdLowlim | wrcmdHighlim | wrcmdMfrid | wrcmdDevid => cases h
  | _ => rfl

/-- A procedure that ends does so at its END, when that fails or no read phase follows, or with its read phase. -/
theorem procedureOf_cases {i : Instr} {a : DevAddr} {ans : Answers} {r : Run} (h : procedureOf i a ans = some r) :
    (i ≠ .rdword ∧ (ans.status ≠ 0#8 ∨ hasRead (fieldsOf i).op = false)
        ∧ r = ⟨writeEvents i a ans.status, noValue (errOf ans.status) 0#8⟩)
      ∨ (hasRead (fieldsOf i).op = true ∧ (i = .rdword ∨ ans.status = 0#8) ∧ ∃ rr, readPhase a ans = some rr
          ∧ r = ⟨writeEvents i a ans.status ++ rr.events, valueOf i rr⟩) := by
  cases hr : hasRead (fieldsOf i).op with
  | false =>
    rw [procedureOf_of_no_readPhase hr, Option.some.injEq] at h
    refine .inl ⟨?_, .inr rfl, h.symm⟩
    rintro rfl
    cases hr
  | true =>
    by_cases hi : i = .rdword
    · subst hi
      rw [procedureOf_rdword, Option.map_eq_some_iff] at h
      obtain ⟨rr, hrr, h⟩ := h
      exact .inr ⟨rfl, .inl rfl, rr, hrr, h.symm⟩
    · have hop : (fieldsOf i).op ≠ OpCode.rdword := (fieldsOf_op_eq_rdword_iff i).not.2 hi
      have hw : writeEvents i a ans.status = writePhase a [(fieldsOf i).ptr] ans.status := by
        rw [writeEvents, if_neg hop, bytesOf_of_hasRead hr]
      rw [procedureOf_of_both_phases hr hi, writeThenRead, ← hw] at h
      split_ifs at h with hst
      · rw [Option.some.injEq] at h
        exact .inl ⟨hi, .inl (mt (errOf_eq_zero_iff _).2 hst), h.symm⟩
      · rw [Option.map_eq_some_iff] at h
        obtain ⟨rr, hrr, h⟩ := h
        exact .inr ⟨rfl, .inr ((errOf_eq_zero_iff _).1 (not_not.1 hst)), rr, hrr, h.symm⟩

/-! ## The number of events (R111) -/

theorem readyRun_length (a : DevAddr) (early : List Byte) (c b0 b1 : Byte) :
    (readyRun a early c b0 b1).events.length = 3 + 2 * early.length := by
  simp only [readyRun, List.cons_append, List.length_cons, List.length_append, List.length_nil, pollWaits_length]
  omega

theorem timeoutRun_length (a : DevAddr) (early : List Byte) : (timeoutRun a early).events.length = 1 + 2 * early.length := by
  simp only [timeoutRun, List.length_cons, pollWaits_length]
  omega

theorem timeoutCode_ne_zero : Config.timeoutCode ≠ 0#16 := by decide

/-- A read phase that succeeds has three events and two for each poll iteration, a timeout has 501. -/
theorem readPhase_length {a : DevAddr} {ans : Answers} {r : ReadRun} (h : readPhase a ans = some r) :
    (r.err = 0#16 → r.events.length = 3 + 2 * r.polls.toNat) ∧ (r.err ≠ 0#16 → r.events.length = 501) := by
  obtain ⟨early, -, ⟨c, -, hlen, rfl⟩ | ⟨hlen, rfl⟩⟩ := readPhase_cases h
  · have hpolls : (readyRun a early c ans.b0 ans.b1).polls.toNat = early.length :=
      (BitVec.toNat_ofNat ..).trans (Nat.mod_eq_of_lt (by omega))
    exact ⟨fun _ => by rw [readyRun_length, hpolls], fun herr => absurd rfl herr⟩
  · exact ⟨fun herr => absurd herr timeoutCode_ne_zero, fun _ => by rw [timeoutRun_length, hlen]⟩

theorem writePhase_length (a : DevAddr) (bs : List Byte) (st : Byte) : (writePhase a bs st).length = 2 + bs.length := by
  simp only [writePhase, List.cons_append, List.length_cons, List.length_append, List.length_map, List.length_nil]
  omega

theorem writeEvents_length (i : Instr) (a : DevAddr) (st : Byte) :
    (writeEvents i a st).length = if (fieldsOf i).op = OpCode.rdword then 0
      else if (fieldsOf i).op = OpCode.wrword ∨ (fieldsOf i).op = OpCode.wrcfg then 5 else 3 := by
  unfold writeEvents bytesOf
  split_ifs
  · rfl
  · exact writePhase_length ..
  · exact writePhase_length ..

theorem hasRead_of_both_phases {op : Op} (h : op ∈ [0x4#4, 0x5#4, 0x6#4, 0x8#4]) : hasRead op = true := by
  revert op
  decide

theorem writeEvents_length_of_both_phases {i : Instr} (h : (fieldsOf i).op ∈ [0x4#4, 0x5#4, 0x6#4, 0x8#4]) (a : DevAddr)
    (st : Byte) : (writeEvents i a st).length = 3 := by
  have hw := writeEvents_length i a st
  simp only [List.mem_cons, List.not_mem_nil, or_false] at h
  rcases h with h | h | h | h <;> rw [hw, h] <;> rfl

/-- Settles O50: a command's events are its write phase's, by OP, and its read phase's, by outcome. -/
theorem eventCountsOfEveryCommand : Obligations.EventCountsOfEveryCommand := by
  unfold Obligations.EventCountsOfEveryCommand
  intro i a ans r h
  have hw := writeEvents_length i a ans.status
  rcases procedureOf_cases h with ⟨hi, hst, rfl⟩ | ⟨hr, hst, rr, hrr, rfl⟩
  · have hop3 : ¬(fieldsOf i).op = 0x3#4 := (fieldsOf_op_eq_rdword_iff i).not.2 hi
    have hfail : (fieldsOf i).op ∈ [0x4#4, 0x5#4, 0x6#4, 0x8#4] → ans.status ≠ 0#8 := fun hop =>
      hst.resolve_right (by simp [hasRead_of_both_phases hop])
    refine ⟨fun hop => ?_, fun hop => ?_, fun hop => absurd hop hop3, fun hop => absurd hop hop3,
      fun hop _ => writeEvents_length_of_both_phases hop a _, fun hop h0 => absurd h0 (hfail hop),
      fun hop h0 => absurd h0 (hfail hop)⟩
    · rw [hw, hop]; rfl
    · rcases hop with hop | hop <;> rw [hw, hop] <;> rfl
  · obtain ⟨hok, htimeout⟩ := readPhase_length hrr
    have hboth : ∀ n, (fieldsOf i).op ∈ [0x4#4, 0x5#4, 0x6#4, 0x8#4] → rr.events.length = n →
        (writeEvents i a ans.status ++ rr.events).length = 3 + n := fun n hop hn => by
      rw [List.length_append, writeEvents_length_of_both_phases hop, hn]
    have halone : ∀ n, (fieldsOf i).op = 0x3#4 → rr.events.length = n →
        (writeEvents i a ans.status ++ rr.events).length = n := fun n hop hn => by
      rw [List.length_append, hw, hop, hn]; exact Nat.zero_add n
    have hsucceeds : (fieldsOf i).op ∈ [0x4#4, 0x5#4, 0x6#4, 0x8#4] → ans.status = 0#8 := fun hop =>
      hst.resolve_left fun hi => by subst hi; exact absurd hop (by decide)
    rw [valueOf_err, valueOf_pollCnt]
    refine ⟨fun hop => ?_, fun hop => ?_, fun hop he => halone _ hop (hok he), fun hop he => halone _ hop (htimeout he),
      fun hop hne => absurd (hsucceeds hop) hne, fun hop _ he => ?_, fun hop _ he => hboth 501 hop (htimeout he)⟩
    · rw [hop] at hr; cases hr
    · rcases hop with hop | hop <;> rw [hop] at hr <;> cases hr
    · rw [hboth _ hop (hok he)]
      omega

/-! ## RDID and RDCFG as REGRD (R152) -/

/-- On a timeout there is no word (R104). -/
theorem readPhase_word_of_error {a : DevAddr} {ans : Answers} {r : ReadRun} (h : readPhase a ans = some r)
    (he : r.err ≠ 0#16) : r.word = 0#16 := by
  obtain ⟨early, -, ⟨c, -, -, rfl⟩ | ⟨-, rfl⟩⟩ := readPhase_cases h
  · exact absurd rfl he
  · rfl

theorem writeThenRead_congr (a : DevAddr) (ptr : Byte) (ans : Answers) {f g : ReadRun → ResultRegs}
    (h : ∀ r, readPhase a ans = some r → f r = g r) : writeThenRead a ptr ans f = writeThenRead a ptr ans g := by
  unfold writeThenRead
  split_ifs
  · rfl
  · cases hr : readPhase a ans with
    | none => rfl
    | some r => rw [Option.map_some, Option.map_some, h r hr]

/-- REGRD reports the word with the error, RDID the word or the error: the same, as an error comes with no word. -/
theorem procRdid_eq_procRegrd (a : DevAddr) (ptr : Byte) (ans : Answers) : procRdid a ptr ans = procRegrd a ptr ans :=
  writeThenRead_congr a ptr ans fun r hr => by
    split_ifs with he
    · rw [noValue, readPhase_word_of_error hr he]
    · rw [not_not.1 he]

/-- Settles O52: the completions agree on everything the sequencer gives them, and the procedures on every read phase. -/
theorem identifierReadsBehaveAsRegisterReads : Obligations.IdentifierReadsBehaveAsRegisterReads := by
  unfold Obligations.IdentifierReadsBehaveAsRegisterReads
  exact ⟨fun s hb => ⟨exec_identifier_eq_exec_word rfl rfl hb, exec_identifier_eq_exec_word rfl rfl hb,
      exec_identifier_eq_exec_word rfl rfl hb⟩,
    fun a ans => ⟨procRdid_eq_procRegrd a _ ans, procRdid_eq_procRegrd a _ ans, procRdid_eq_procRegrd a _ ans⟩⟩

/-! ## The outcome of a measurement (R151) -/

theorem valueOf_rdmeas {i : Instr} (h : i ∈ [Instr.rdmeasResult, .rdmeasLowlim, .rdmeasHighlim]) (r : ReadRun) :
    valueOf i r = if r.err ≠ 0#16 then noValue r.err r.polls
      else ⟨r.word, 0#16, centiOf r.word, f32Of r.word, r.polls⟩ := by
  simp only [List.mem_cons, List.not_mem_nil, or_false] at h
  rcases h with rfl | rfl | rfl <;> rfl

theorem hasRead_of_rdmeas {i : Instr} (h : i ∈ [Instr.rdmeasResult, .rdmeasLowlim, .rdmeasHighlim]) :
    hasRead (fieldsOf i).op = true := by
  revert i
  decide

/-- Settles O53: an error gives no value, whether from the END or from the read phase, and without one lux decodes the word. -/
theorem measurementOutcomeIsCoherent : Obligations.MeasurementOutcomeIsCoherent := by
  unfold Obligations.MeasurementOutcomeIsCoherent
  intro i a ans r hi h
  rcases procedureOf_cases h with ⟨-, hst, rfl⟩ | ⟨-, -, rr, -, rfl⟩
  · have hr := hasRead_of_rdmeas hi
    have herr : errOf ans.status ≠ 0#16 := mt (errOf_eq_zero_iff _).1 (hst.resolve_right (by simp [hr]))
    exact ⟨fun _ => ⟨rfl, rfl, rfl⟩, fun he => absurd he herr⟩
  · rw [valueOf_rdmeas hi]
    split_ifs with he
    · exact ⟨fun _ => ⟨rfl, rfl, rfl⟩, fun h0 => absurd h0 he⟩
    · exact ⟨fun hne => absurd rfl hne, fun _ => ⟨rfl, rfl⟩⟩

/-! ## The status-10 collision (R212) -/

theorem wait_notMem_writeEvents (i : Instr) (a : DevAddr) (st : Byte) (ms : Nat) : BusEvent.wait ms ∉ writeEvents i a st := by
  unfold writeEvents
  split_ifs <;> simp [writePhase]

theorem read_notMem_writeEvents (i : Instr) (a : DevAddr) (st n b0 b1 : Byte) :
    BusEvent.read n b0 b1 ∉ writeEvents i a st := by
  unfold writeEvents
  split_ifs <;> simp [writePhase]

theorem read_notMem_pollWaits (cs : List Byte) (n b0 b1 : Byte) : BusEvent.read n b0 b1 ∉ pollWaits cs := by
  simp [pollWaits]

theorem count_wait_pollWaits (cs : List Byte) : (pollWaits cs).count (.wait 10) = cs.length := by
  induction cs with
  | nil => rfl
  | cons c cs ih => simp [ih, Config.pollIntervalMs]

/-- Settles O54: an END reports -100 for status 10 only, and a read phase on a timeout only. -/
theorem pollCountTellsTimeoutFromStatusTen : Obligations.PollCountTellsTimeoutFromStatusTen := by
  unfold Obligations.PollCountTellsTimeoutFromStatusTen
  intro i a ans r h herr
  rcases procedureOf_cases h with ⟨hi, -, rfl⟩ | ⟨-, -, rr, hrr, rfl⟩
  · have hst : ans.status = 10#8 := by
      rw [noValue, errOf_toInt] at herr
      apply BitVec.eq_of_toNat_eq
      rw [BitVec.toNat_ofNat]
      omega
    refine .inr ⟨rfl, ?_, wait_notMem_writeEvents i a _ 10⟩
    rw [writeEvents, if_neg ((fieldsOf_op_eq_rdword_iff i).not.2 hi), hst]
    simp [writePhase, Config.endStop]
  · rw [valueOf_err] at herr
    obtain ⟨early, -, ⟨c, -, -, rfl⟩ | ⟨hlen, rfl⟩⟩ := readPhase_cases hrr
    · exact absurd herr (show (0#16).toInt ≠ -100 by decide)
    · refine .inl ⟨valueOf_pollCnt .., ?_, fun n b0 b1 => ?_⟩
      · rw [List.count_append, List.count_eq_zero.2 (wait_notMem_writeEvents i a _ 10), timeoutRun]
        simp [count_wait_pollWaits, hlen]
      · simp [timeoutRun, read_notMem_writeEvents, read_notMem_pollWaits]

end Sys2Proof.Machine
end

section
/-! PROOFS. The sequencer runs every command as the procedure of its rule: one run of two turns for each event, and the phases as
runs of their events (40_bus_transaction.md R101, R103 to R105, 10_state.md R39). -/

namespace Sys2Proof.Machine

/-! ## Runs of events -/

/-- The turns of these events lead from one state to another, whatever turns come after them. -/
def RunsTo (es : List BusEvent) (s t : State) : Prop :=
  ∀ (ts : List Turn) (n : Nat),
    runSteps ((turnsOf es).length + n) (setSchedule (turnsOf es ++ ts) s) = runSteps n (setSchedule ts t)

theorem runsTo_nil (s : State) : RunsTo [] s s := fun ts n => by
  rw [turnsOf, List.flatMap_nil, List.length_nil, Nat.zero_add, List.nil_append]

theorem RunsTo.append {es es' : List BusEvent} {s t u : State} (h : RunsTo es s t) (h' : RunsTo es' t u) :
    RunsTo (es ++ es') s u := fun ts n => by
  have hturns : turnsOf (es ++ es') = turnsOf es ++ turnsOf es' := List.flatMap_append
  rw [hturns, List.length_append, Nat.add_assoc, List.append_assoc, h, h']

/-- The turn that answers the primitive of an event. -/
def answeringTurn (e : BusEvent) : Turn :=
  match e with
  | .beginTx _ | .write _ | .request _ _ => .transport drawReturn
  | .endTx _ st => .transport (drawStatus st)
  | .avail c => .transport (drawCount c)
  | .wait _ => .timer
  | .read _ b0 b1 => .transport (drawBytes b0 b1)

/-- The answer it gives. -/
def answerOf (e : BusEvent) : Answer :=
  match e with
  | .beginTx _ | .write _ | .request _ _ => .returned
  | .endTx _ st => .status st
  | .avail c => .count c
  | .wait _ => .waited
  | .read _ b0 b1 => .bytes b0 b1

theorem turnsOfEvent_eq (e : BusEvent) : turnsOfEvent e = [answeringTurn e, .sequencer] := by
  cases e <;> rfl

theorem takeTurn_answeringTurn {e : BusEvent} {s : State} (ho : outstanding s = some (primitiveOf e))
    (ha : s.answer = none) : takeTurn (answeringTurn e) s = .next (giveAnswer (answerOf e) s) := by
  cases e with
  | wait ms => simp only [takeTurn, answeringTurn, timerTurn, ha, ho, primitiveOf, answerOf]
  | _ => exact transportTurn_of_outstanding _ ha ho

/-- An event takes two turns: the answer to its primitive, and the sequencer's step with that answer. -/
theorem runsTo_event {e : BusEvent} {i : Instr} {s t : State} (hb : s.busy = true)
    (hi : decodeFields s.seqOp s.seqPtr s.seqData = .ok i) (ha : s.answer = none)
    (ho : outstanding s = some (primitiveOf e))
    (hstep : ∀ ts, sequencerStep (finishOf i) (giveAnswer (answerOf e) (setSchedule ts s)) = .next (setSchedule ts t)) :
    RunsTo [e] s t := fun ts n => by
  have hturns : turnsOf [e] = [answeringTurn e, .sequencer] := by
    rw [turnsOf, List.flatMap_singleton, turnsOfEvent_eq]
  have hseq : takeTurn .sequencer (giveAnswer (answerOf e) (setSchedule ts s)) = .next (setSchedule ts t) := by
    rw [takeTurn, sequencerTurn_of_busy (s := giveAnswer (answerOf e) (setSchedule ts s)) hb hi,
      exec_of_busy i (giveAnswer (answerOf e) (setSchedule ts s)) hb, hstep]
  rw [hturns, List.length_cons, List.length_singleton, Nat.add_comm _ n]
  exact (runSteps_setSchedule (takeTurn_answeringTurn (s := setSchedule (.sequencer :: ts) s) ho ha) (n + 1)).trans
    (runSteps_setSchedule (s := giveAnswer (answerOf e) s) hseq n)

/-! ## One run for each control point -/

/-- A completion writes the results that `valueOf` names. -/
theorem finishOf_eq_complete_valueOf {i : Instr} (hr : hasRead (fieldsOf i).op = true) (r : ReadRun) (s : State) :
    finishOf i r.word r.err r.polls s = complete (valueOf i r).word (valueOf i r).err (valueOf i r).luxCenti
      (valueOf i r).luxF32 (valueOf i r).pollCnt s := by
  rw [finishOf, if_neg (by simp [hr])]
  unfold valueOf
  split_ifs with hword hmeas herr herr
  · rfl
  · exact if_pos herr
  · exact if_neg herr
  · exact if_pos herr
  · exact if_neg herr

section
variable {i : Instr} {s : State} (hb : s.busy = true) (hi : decodeFields s.seqOp s.seqPtr s.seqData = .ok i)
  (es : List BusEvent) (k : BitVec 2) (n : Byte)
include hb hi

theorem runsTo_begin : RunsTo [.beginTx s.devAddr] (goesOnAfter es .wbegin k n s)
    (goesOnAfter (es ++ [BusEvent.beginTx s.devAddr]) .wbyte 0#2 n s) := by
  refine runsTo_event hb hi rfl rfl fun ts => ?_
  rw [sequencerStep_of_begin _ rfl rfl]
  simp only [goTo, setK, emit, takeAnswer, giveAnswer, setSchedule, goesOnAfter, List.append_assoc]

theorem runsTo_write {b : Byte} (hbyte : (bytesOf s.seqOp s.seqPtr s.seqData)[k.toNat]? = some b) :
    RunsTo [.write b] (goesOnAfter es .wbyte k n s) (goesOnAfter (es ++ [BusEvent.write b])
      (if k.toNat + 1 = (bytesOf s.seqOp s.seqPtr s.seqData).length then .wend else .wbyte) (k + 1#2) n s) := by
  refine runsTo_event hb hi rfl (outstanding_of_byte rfl hbyte) fun ts => ?_
  rw [sequencerStep_of_byte _ rfl rfl hbyte]
  simp only [goTo, setK, emit, takeAnswer, giveAnswer, setSchedule, goesOnAfter, List.append_assoc] <;> rfl

theorem runsTo_end_of_success (hr : hasRead s.seqOp = true) :
    RunsTo [.endTx Config.endStop 0#8] (goesOnAfter es .wend k n s)
      (goesOnAfter (es ++ [BusEvent.endTx Config.endStop 0#8]) .rreq k n s) := by
  refine runsTo_event hb hi rfl rfl fun ts => ?_
  refine (sequencerStep_of_end _ rfl rfl).trans (congrArg _ ((afterEnd_of_success ?_).trans ?_))
  · simpa [goesOnAfter] using hr
  simp only [goTo, emit, takeAnswer, giveAnswer, setSchedule, goesOnAfter, List.append_assoc]

theorem runsTo_end_of_completion {st : Byte} (h : st ≠ 0#8 ∨ hasRead s.seqOp = false) :
    RunsTo [.endTx Config.endStop st] (goesOnAfter es .wend k n s)
      (completesWith (es ++ [BusEvent.endTx Config.endStop st]) (noValue (errOf st) 0#8) k n s.seqWord s) := by
  refine runsTo_event hb hi rfl rfl fun ts => ?_
  refine (sequencerStep_of_end _ rfl rfl).trans (congrArg _ ((afterEnd_completes ?_).trans ?_))
  · simpa [goesOnAfter] using h
  simp only [complete, emit, takeAnswer, giveAnswer, setSchedule, goesOnAfter, completesWith, noValue, List.append_assoc]

theorem runsTo_request : RunsTo [.request s.devAddr Config.readCount] (goesOnAfter es .rreq k n s)
    (goesOnAfter (es ++ [BusEvent.request s.devAddr Config.readCount]) .rpoll k 0#8 s) := by
  refine runsTo_event hb hi rfl rfl fun ts => ?_
  rw [sequencerStep_of_request _ rfl rfl]
  simp only [goTo, setPolls, emit, takeAnswer, giveAnswer, setSchedule, goesOnAfter, List.append_assoc]

theorem runsTo_check (c : Byte) : RunsTo [.avail c] (goesOnAfter es .rpoll k n s)
    (goesOnAfter (es ++ [BusEvent.avail c]) (if 2 ≤ c.toNat then .rread else .rwait) k n s) := by
  refine runsTo_event hb hi rfl rfl fun ts => ?_
  rw [sequencerStep_of_check _ rfl rfl]
  simp only [goTo, emit, takeAnswer, giveAnswer, setSchedule, goesOnAfter, List.append_assoc]

theorem runsTo_wait_below_ceiling (hn : n.toNat < 249) :
    RunsTo [.wait Config.pollIntervalMs] (goesOnAfter es .rwait k n s)
      (goesOnAfter (es ++ [BusEvent.wait Config.pollIntervalMs]) .rpoll k (n + 1#8) s) := by
  refine runsTo_event hb hi rfl rfl fun ts => ?_
  rw [sequencerStep_of_wait_below_ceiling _ rfl rfl hn]
  simp only [goTo, setPolls, emit, takeAnswer, giveAnswer, setSchedule, goesOnAfter, List.append_assoc]

theorem runsTo_wait_at_ceiling (hr : hasRead (fieldsOf i).op = true) (a : DevAddr) (early : List Byte) :
    RunsTo [.wait Config.pollIntervalMs] (goesOnAfter es .rwait k 249#8 s)
      (completesWith (es ++ [BusEvent.wait Config.pollIntervalMs]) (valueOf i (timeoutRun a early)) k 250#8 s.seqWord s) := by
  refine runsTo_event hb hi rfl rfl fun ts => ?_
  rw [sequencerStep_of_wait_at_ceiling _ rfl rfl rfl]
  refine congrArg _ ((finishOf_eq_complete_valueOf hr (timeoutRun a early) _).trans ?_)
  simp only [complete, setPolls, emit, takeAnswer, giveAnswer, setSchedule, goesOnAfter, completesWith, List.append_assoc]

theorem runsTo_read (hr : hasRead (fieldsOf i).op = true) (r : ReadRun) {b0 b1 : Byte} (hw : r.word = assembleWord b0 b1)
    (he : r.err = 0#16) (hn : r.polls = n) :
    RunsTo [.read Config.readCount b0 b1] (goesOnAfter es .rread k n s)
      (completesWith (es ++ [BusEvent.read Config.readCount b0 b1]) (valueOf i r) k n r.word s) := by
  refine runsTo_event hb hi rfl rfl fun ts => ?_
  rw [sequencerStep_of_read _ rfl rfl, ← hw, ← he]
  subst hn
  refine congrArg _ ((finishOf_eq_complete_valueOf hr r _).trans ?_)
  simp only [complete, setSeqWord, emit, takeAnswer, giveAnswer, setSchedule, goesOnAfter, completesWith, List.append_assoc]

/-! ## The phases -/

/-- The bytes that are left are written, and lead to the end. -/
theorem runsTo_bytes {b : Byte} {rest : List Byte} (h : (bytesOf s.seqOp s.seqPtr s.seqData).drop k.toNat = b :: rest) :
    ∃ k', RunsTo ((b :: rest).map BusEvent.write) (goesOnAfter es .wbyte k n s)
      (goesOnAfter (es ++ (b :: rest).map BusEvent.write) .wend k' n s) := by
  have hbyte : (bytesOf s.seqOp s.seqPtr s.seqData)[k.toNat]? = some b := by
    rw [← List.head?_drop, h, List.head?_cons]
  have hlen : (bytesOf s.seqOp s.seqPtr s.seqData).length - k.toNat = (b :: rest).length := by
    rw [← List.length_drop, h]
  have hwrite := runsTo_write hb hi es k n hbyte
  induction rest generalizing es k b with
  | nil =>
    rw [if_pos (by rw [List.length_singleton] at hlen; omega)] at hwrite
    exact ⟨_, hwrite⟩
  | cons b' rest ih =>
    have hnext : (k + 1#2).toNat = k.toNat + 1 := next_byteIndex (List.getElem?_eq_some_iff.1 hbyte).1
    have hdrop : (bytesOf s.seqOp s.seqPtr s.seqData).drop (k + 1#2).toNat = b' :: rest := by
      rw [hnext, ← List.tail_drop, h, List.tail_cons]
    have hbyte' : (bytesOf s.seqOp s.seqPtr s.seqData)[(k + 1#2).toNat]? = some b' := by
      rw [← List.head?_drop, hdrop, List.head?_cons]
    simp only [List.length_cons] at hlen
    rw [if_neg (by omega)] at hwrite
    obtain ⟨k', hrest⟩ := ih (es ++ [BusEvent.write b]) (k + 1#2) hdrop hbyte'
      (by rw [hnext, List.length_cons]; omega) (runsTo_write hb hi _ _ n hbyte')
    exact ⟨k', by simpa using hwrite.append hrest⟩

/-- The write phase up to its end. -/
theorem runsTo_writePhase_begin_bytes :
    ∃ k', RunsTo (BusEvent.beginTx s.devAddr :: (bytesOf s.seqOp s.seqPtr s.seqData).map BusEvent.write)
      (goesOnAfter es .wbegin k n s) (goesOnAfter
        (es ++ BusEvent.beginTx s.devAddr :: (bytesOf s.seqOp s.seqPtr s.seqData).map BusEvent.write) .wend k' n s) := by
  obtain ⟨b, rest, hbytes⟩ := List.exists_cons_of_length_pos (bytesOf_length_pos s.seqOp s.seqPtr s.seqData)
  obtain ⟨k', hrun⟩ := runsTo_bytes hb hi (es ++ [BusEvent.beginTx s.devAddr]) 0#2 n hbytes
  rw [hbytes]
  exact ⟨k', by simpa using (runsTo_begin hb hi es k n).append hrun⟩

/-- A write phase that completes its command. -/
theorem runsTo_writePhase_completing {st : Byte} (h : st ≠ 0#8 ∨ hasRead s.seqOp = false) :
    ∃ k', RunsTo (writePhase s.devAddr (bytesOf s.seqOp s.seqPtr s.seqData) st) (goesOnAfter es .wbegin k n s)
      (completesWith (es ++ writePhase s.devAddr (bytesOf s.seqOp s.seqPtr s.seqData) st) (noValue (errOf st) 0#8)
        k' n s.seqWord s) := by
  obtain ⟨k', hrun⟩ := runsTo_writePhase_begin_bytes hb hi es k n
  exact ⟨k', by simpa [writePhase] using hrun.append (runsTo_end_of_completion hb hi _ k' n h)⟩

/-- A write phase that leads to the read phase. -/
theorem runsTo_writePhase_succeeding (hr : hasRead s.seqOp = true) :
    ∃ k', RunsTo (writePhase s.devAddr (bytesOf s.seqOp s.seqPtr s.seqData) 0#8) (goesOnAfter es .wbegin k n s)
      (goesOnAfter (es ++ writePhase s.devAddr (bytesOf s.seqOp s.seqPtr s.seqData) 0#8) .rreq k' n s) := by
  obtain ⟨k', hrun⟩ := runsTo_writePhase_begin_bytes hb hi es k n
  exact ⟨k', by simpa [writePhase] using hrun.append (runsTo_end_of_success hb hi _ k' n hr)⟩

/-- Poll iterations below the ceiling are counted in S.polls. -/
theorem runsTo_pollWaits {early : List Byte} (hearly : ∀ e ∈ early, e.toNat < 2) (hn : n.toNat + early.length < 250) :
    RunsTo (pollWaits early) (goesOnAfter es .rpoll k n s)
      (goesOnAfter (es ++ pollWaits early) .rpoll k (BitVec.ofNat 8 (n.toNat + early.length)) s) := by
  induction early generalizing es n with
  | nil => simpa using runsTo_nil _
  | cons c early ih =>
    obtain ⟨hc, hearly⟩ := List.forall_mem_cons.1 hearly
    rw [List.length_cons] at hn ⊢
    have hnext : (n + 1#8).toNat = n.toNat + 1 := next_polls (show n.toNat < 250 by omega)
    have hcheck := runsTo_check hb hi es k n c
    rw [if_neg (by omega)] at hcheck
    have hwait := runsTo_wait_below_ceiling hb hi (es ++ [BusEvent.avail c]) k n (by omega)
    have hrest := ih ((es ++ [BusEvent.avail c]) ++ [BusEvent.wait Config.pollIntervalMs]) (n + 1#8) hearly (by omega)
    rw [hnext, Nat.add_assoc, Nat.add_comm 1] at hrest
    simpa using (hcheck.append hwait).append hrest

/-- The read phase that reads. -/
theorem runsTo_readyRun (hr : hasRead (fieldsOf i).op = true) {early : List Byte} {c : Byte}
    (hearly : ∀ e ∈ early, e.toNat < 2) (hc : 2 ≤ c.toNat) (hlen : early.length < 250) (b0 b1 : Byte) :
    RunsTo (readyRun s.devAddr early c b0 b1).events (goesOnAfter es .rreq k n s)
      (completesWith (es ++ (readyRun s.devAddr early c b0 b1).events) (valueOf i (readyRun s.devAddr early c b0 b1)) k
        (BitVec.ofNat 8 early.length) (assembleWord b0 b1) s) := by
  have hrequest := runsTo_request hb hi es k n
  have hpolls := runsTo_pollWaits hb hi (es ++ [BusEvent.request s.devAddr Config.readCount]) k 0#8 hearly
    (by rw [BitVec.toNat_ofNat]; omega)
  rw [show (0#8).toNat + early.length = early.length from Nat.zero_add _] at hpolls
  have hcheck := runsTo_check hb hi
    (es ++ [BusEvent.request s.devAddr Config.readCount] ++ pollWaits early) k (BitVec.ofNat 8 early.length) c
  rw [if_pos hc] at hcheck
  have hread := runsTo_read hb hi
    (es ++ [BusEvent.request s.devAddr Config.readCount] ++ pollWaits early ++ [BusEvent.avail c]) k _ hr
    (readyRun s.devAddr early c b0 b1) (b0 := b0) (b1 := b1) rfl rfl rfl
  simpa [readyRun] using ((hrequest.append hpolls).append hcheck).append hread

/-- The read phase that ends at the ceiling: its last wait is the 250th. -/
theorem runsTo_timeoutRun (hr : hasRead (fieldsOf i).op = true) {early : List Byte}
    (hearly : ∀ e ∈ early, e.toNat < 2) (hlen : early.length = 250) :
    RunsTo (timeoutRun s.devAddr early).events (goesOnAfter es .rreq k n s)
      (completesWith (es ++ (timeoutRun s.devAddr early).events) (valueOf i (timeoutRun s.devAddr early)) k 250#8
        s.seqWord s) := by
  obtain ⟨init, c, rfl⟩ : ∃ init c, early = init ++ [c] :=
    (List.eq_nil_or_concat' early).resolve_left (by rintro rfl; cases hlen)
  have hinit : init.length = 249 := by simpa using hlen
  obtain ⟨hearly, hlast⟩ := List.forall_mem_append.1 hearly
  have hc := List.forall_mem_singleton.1 hlast
  have hrequest := runsTo_request hb hi es k n
  have hpolls := runsTo_pollWaits hb hi (es ++ [BusEvent.request s.devAddr Config.readCount]) k 0#8 hearly
    (by rw [BitVec.toNat_ofNat, hinit]; decide)
  rw [hinit] at hpolls
  have hcheck := runsTo_check hb hi
    (es ++ [BusEvent.request s.devAddr Config.readCount] ++ pollWaits init) k 249#8 c
  rw [if_neg (by omega)] at hcheck
  have hwait := runsTo_wait_at_ceiling hb hi
    (es ++ [BusEvent.request s.devAddr Config.readCount] ++ pollWaits init ++ [BusEvent.avail c]) k hr s.devAddr
    (init ++ [c])
  simpa [timeoutRun, pollWaits_append] using ((hrequest.append hpolls).append hcheck).append hwait

theorem runsTo_readPhase (hr : hasRead (fieldsOf i).op = true) {ans : Answers} {r : ReadRun}
    (h : readPhase s.devAddr ans = some r) :
    ∃ m w, RunsTo r.events (goesOnAfter es .rreq k n s) (completesWith (es ++ r.events) (valueOf i r) k m w s) := by
  obtain ⟨early, hearly, ⟨c, hc, hlen, rfl⟩ | ⟨hlen, rfl⟩⟩ := readPhase_cases h
  · exact ⟨_, _, runsTo_readyRun hb hi es k n hr hearly hc hlen ans.b0 ans.b1⟩
  · exact ⟨_, _, runsTo_timeoutRun hb hi es k n hr hearly hlen⟩

end

/-! ## The procedures -/

theorem goesOnAfter_nil {s : State} {c : Control} (ha : s.answer = none) (hs : s.seqState = c) :
    goesOnAfter [] c s.seqK s.seqPolls s = s := by
  rw [goesOnAfter, List.append_nil, ← ha, ← hs]

/-- From its entry state a command runs the events of its procedure and completes with its results. -/
theorem runsTo_procedure {i : Instr} {s : State} (hb : s.busy = true)
    (hi : decodeFields s.seqOp s.seqPtr s.seqData = .ok i) (ha : s.answer = none)
    (hs : s.seqState = if i = .rdword then .rreq else .wbegin) {ans : Answers} {r : Run}
    (h : procedureOf i s.devAddr ans = some r) :
    ∃ k m w, RunsTo r.events s (completesWith r.events r.results k m w s) := by
  have hfields := fieldsOf_of_decodeFields hi
  have hop : (fieldsOf i).op = s.seqOp := congrArg Command.op hfields
  have hwrite : i ≠ .rdword → ∀ st, writeEvents i s.devAddr st
      = writePhase s.devAddr (bytesOf s.seqOp s.seqPtr s.seqData) st := fun hne st => by
    rw [writeEvents, if_neg ((fieldsOf_op_eq_rdword_iff i).not.2 hne), hfields]
  rcases procedureOf_cases h with ⟨hne, hst, rfl⟩ | ⟨hr, hst, rr, hrr, rfl⟩
  · rw [if_neg hne] at hs
    rw [hop] at hst
    obtain ⟨k, hrun⟩ := runsTo_writePhase_completing hb hi [] s.seqK s.seqPolls hst
    rw [goesOnAfter_nil ha hs, ← hwrite hne, List.nil_append] at hrun
    exact ⟨k, _, _, hrun⟩
  · by_cases hne : i = .rdword
    · have hnone : writeEvents i s.devAddr ans.status = [] := if_pos ((fieldsOf_op_eq_rdword_iff i).2 hne)
      rw [if_pos hne] at hs
      obtain ⟨m, w, hrun⟩ := runsTo_readPhase hb hi [] s.seqK s.seqPolls hr hrr
      rw [goesOnAfter_nil ha hs, List.nil_append] at hrun
      rw [hnone, List.nil_append]
      exact ⟨_, m, w, hrun⟩
    · rw [if_neg hne] at hs
      have hst := hst.resolve_left hne
      obtain ⟨k, hrun⟩ := runsTo_writePhase_succeeding hb hi [] s.seqK s.seqPolls (hop ▸ hr)
      rw [goesOnAfter_nil ha hs, List.nil_append, ← hwrite hne] at hrun
      obtain ⟨m, w, hread⟩ := runsTo_readPhase hb hi (writeEvents i s.devAddr 0#8) k s.seqPolls hr hrr
      rw [hst]
      exact ⟨k, m, w, hrun.append hread⟩

/-- The host's turn that issues a command to an idle, addressed block (R22). -/
theorem step_of_issue {s : State} {i : Instr} {p : List HostAction} {ts : List Turn} (hsch : s.schedule = .host :: ts)
    (hp : s.program = hostIssue (encode i) :: p) (hb : s.busy = false) (hv : s.devValid = true) :
    step s = .next (setSchedule ts (accept (encode i) (setProgram p s))) := by
  refine (stepIssuesTheDecodedCommand s (encode i) i p ts hsch hp hb hv (decode_encode i)).trans
    ((exec_of_idle_addressed (s := setProgram p (setSchedule ts s)) i hb hv).trans ?_)
  simp only [accept, setProgram, setSchedule]

/-- Settles O49: the host's turn issues the command, and the turns of the procedure's events run it. -/
theorem sequencerRunsTheProcedureOfItsRule : Obligations.SequencerRunsTheProcedureOfItsRule := by
  unfold Obligations.SequencerRunsTheProcedureOfItsRule
  intro i ans r s p ts hb hv ha hproc hp hsch
  have hi : decodeFields (accept (encode i) (setProgram p s)).seqOp (accept (encode i) (setProgram p s)).seqPtr
      (accept (encode i) (setProgram p s)).seqData = .ok i := by
    rw [accept_seqOp, accept_seqPtr, accept_seqData, encode_op, encode_ptr, encode_data, decodeFields_fieldsOf]
  obtain ⟨k, m, w, hrun⟩ := runsTo_procedure (s := accept (encode i) (setProgram p s)) rfl hi ha
    (accept_encode_seqState i _) hproc
  refine ⟨setSchedule ts (completesWith r.events r.results k m w (accept (encode i) (setProgram p s))), ?_, ?_⟩
  · rw [Nat.add_comm, runSteps_succ (step_of_issue hsch hp hb hv)]
    exact hrun ts 0
  · simp [completesWith, hv]

end Sys2Proof.Machine
end

section
/-! PROOFS. LUX_CENTI holds lux exactly (41_register_value.md R146), LUX_F32 is the binary32 nearest to it (R147), and the field
accessors (R154). -/

namespace Sys2Proof.Machine

/-! ## LUX_CENTI (R146) -/

/-- Settles O57: `centi` is lux in hundredths, and LUX_CENTI reads zero-extended. -/
theorem luxCentiHoldsLuxExactly : Obligations.LuxCentiHoldsLuxExactly := by
  unfold Obligations.LuxCentiHoldsLuxExactly
  refine ⟨fun w => ⟨?_, ?_⟩, fun w s h => ?_⟩
  · rw [luxOf_eq_centiNat_div, centiOf_toNat]
  · exact (centiOf_toNat w).trans_le (centiNat_le w)
  · have hread : (readReg 0x10#8 s).toNat = s.luxCenti.toNat := BitVec.toNat_setWidth_of_le (by omega)
    rw [hread, h, centiOf_toNat, luxOf_eq_centiNat_div]

/-! ## The lattice of binary32 values around a binade (R7) -/

/-- The magnitude of a binary32 by its exponent and fraction fields. -/
def fieldMagnitude (e f : ℕ) : ℚ := if e = 0 then (f : ℚ) / 2 ^ 149 else ((2 ^ 23 + f : ℕ) : ℚ) * 2 ^ e / 2 ^ 150

theorem fieldMagnitude_nonneg (e f : ℕ) : 0 ≤ fieldMagnitude e f := by
  unfold fieldMagnitude
  split_ifs <;> positivity

theorem binary32Value_eq_magnitude (x : Word32) :
    ∃ e f, f < 2 ^ 23 ∧ (binary32Value x = fieldMagnitude e f ∨ binary32Value x = -fieldMagnitude e f) := by
  refine ⟨(x.extractLsb' 23 8).toNat, (x.extractLsb' 0 23).toNat, (x.extractLsb' 0 23).isLt, ?_⟩
  unfold binary32Value
  cases x.getLsbD 31
  · exact .inl rfl
  · exact .inr rfl

/-- The unit in the last place of the significand in binade `j` of `f32OfCenti`. -/
def centiUlp (j : ℕ) : ℚ := 2 ^ j / 2 ^ 30

theorem centiUlp_pos (j : ℕ) : 0 < centiUlp j := by
  unfold centiUlp
  positivity

/-- A magnitude is a multiple of the unit, or lies below the binade. -/
theorem fieldMagnitude_multiple_or_below (j e : ℕ) {f : ℕ} (hf : f < 2 ^ 23) :
    (∃ m : ℕ, fieldMagnitude e f = m * centiUlp j) ∨ fieldMagnitude e f < 2 ^ 23 * centiUlp j := by
  have hfq : (f : ℚ) < 2 ^ 23 := by exact_mod_cast hf
  unfold fieldMagnitude centiUlp
  split_ifs with he
  · right
    have hj : (1 : ℚ) ≤ 2 ^ j := one_le_pow₀ (by norm_num)
    linarith
  · rcases le_or_gt (j + 120) e with hje | hje
    · left
      obtain ⟨d, rfl⟩ := Nat.exists_eq_add_of_le hje
      refine ⟨(2 ^ 23 + f) * 2 ^ d, ?_⟩
      push_cast
      ring
    · right
      have hexp : (2 : ℚ) ^ e ≤ 2 ^ (j + 119) := pow_le_pow_right₀ (by norm_num) (by omega)
      have hsig : ((2 ^ 23 + f : ℕ) : ℚ) < 2 ^ 24 := by
        push_cast
        linarith
      have hprod : ((2 ^ 23 + f : ℕ) : ℚ) * 2 ^ e < 2 ^ 24 * 2 ^ (j + 119) :=
        (mul_le_mul_of_nonneg_left hexp (Nat.cast_nonneg _)).trans_lt (mul_lt_mul_of_pos_right hsig (by positivity))
      calc ((2 ^ 23 + f : ℕ) : ℚ) * 2 ^ e / 2 ^ 150 < 2 ^ 24 * 2 ^ (j + 119) / 2 ^ 150 :=
            div_lt_div_of_pos_right hprod (by positivity)
        _ = 2 ^ 23 * (2 ^ j / 2 ^ 30) := by ring

theorem binary32Value_multiple_or_below (j : ℕ) (x : Word32) :
    (∃ m : ℤ, binary32Value x = m * centiUlp j) ∨ |binary32Value x| < 2 ^ 23 * centiUlp j := by
  obtain ⟨e, f, hf, hx⟩ := binary32Value_eq_magnitude x
  have habs : |binary32Value x| = fieldMagnitude e f := by
    rcases hx with hx | hx <;> simp [hx, abs_of_nonneg (fieldMagnitude_nonneg e f)]
  rcases fieldMagnitude_multiple_or_below j e hf with ⟨m, hm⟩ | hlt
  · left
    rcases hx with hx | hx
    · exact ⟨m, by rw [hx, hm, Int.cast_natCast]⟩
    · exact ⟨-m, by rw [hx, hm]; push_cast; ring⟩
  · exact .inr (habs ▸ hlt)

/-! ## The nearest point of the lattice (R147) -/

/-- A multiple within half a unit of a point is strictly nearer to it than any other multiple. -/
theorem multiple_strictly_nearer {u p : ℚ} (hu : 0 < u) {k m : ℤ} (hk : |(k : ℚ) - p| < 1 / 2) (hne : m ≠ k) :
    |k * u - p * u| < |m * u - p * u| := by
  have hone : (1 : ℚ) ≤ |(m : ℚ) - k| := by exact_mod_cast Int.one_le_abs (sub_ne_zero.2 hne)
  have htri : |(m : ℚ) - k| ≤ |(m : ℚ) - p| + |(k : ℚ) - p| := by
    rw [abs_sub_comm (k : ℚ) p]
    exact abs_sub_le _ _ _
  rw [← sub_mul, ← sub_mul, abs_mul, abs_mul]
  exact mul_lt_mul_of_pos_right (by linarith) (abs_pos.2 hu.ne')

theorem two_pow_binade_mul {n : ℕ} (hn : n < 2 ^ 27) : 2 ^ centiBinade n * 2 ^ (30 - centiBinade n) = 2 ^ 30 := by
  have hj := centiBinade_lt hn
  rw [← pow_add]
  congr 1
  omega

/-- The significand before rounding, as a rational. -/
def exactSignificand (n : ℕ) : ℚ := (n * 2 ^ (30 - centiBinade n) : ℕ) / 100

/-- Scaled back it is lux: the scaling of `f32OfCenti` is exact. -/
theorem exactSignificand_mul_ulp {n : ℕ} (hn : n < 2 ^ 27) :
    exactSignificand n * centiUlp (centiBinade n) = (n : ℚ) / 100 := by
  have hp : (2 : ℚ) ^ centiBinade n * 2 ^ (30 - centiBinade n) = 2 ^ 30 := by exact_mod_cast two_pow_binade_mul hn
  have hq : ((n * 2 ^ (30 - centiBinade n) : ℕ) : ℚ) = n * 2 ^ (30 - centiBinade n) := by push_cast; rfl
  rw [exactSignificand, centiUlp, hq]
  linear_combination (n : ℚ) / (100 * 2 ^ 30) * hp

/-- No tie: the scaled number is a multiple of 8, so it is never halfway between two hundreds (R147). -/
theorem centiSignificand_near {n : ℕ} (hn : n < 2 ^ 27) :
    |((centiSignificand n : ℤ) : ℚ) - exactSignificand n| < 1 / 2 := by
  have hj := centiBinade_lt hn
  have h8 : 8 ∣ n * 2 ^ (30 - centiBinade n) :=
    Dvd.dvd.mul_left (pow_dvd_pow 2 (show 3 ≤ 30 - centiBinade n by omega)) n
  obtain ⟨hlo, hhi, -⟩ := roundDivEven_hundred_spec (n * 2 ^ (30 - centiBinade n))
  rw [← centiSignificand] at hlo hhi
  unfold exactSignificand
  generalize n * 2 ^ (30 - centiBinade n) = p at *
  have hlo' : 100 * centiSignificand n < p + 50 := by omega
  have hhi' : p < 100 * centiSignificand n + 50 := by omega
  have hloq : 100 * (centiSignificand n : ℚ) < p + 50 := by exact_mod_cast hlo'
  have hhiq : (p : ℚ) < 100 * centiSignificand n + 50 := by exact_mod_cast hhi'
  rw [abs_lt, Int.cast_natCast]
  constructor <;> linarith

/-- The exact significand is in the binade, whose lowest significand is 2^23. -/
theorem le_exactSignificand {n : ℕ} (h0 : n ≠ 0) (hn : n < 2 ^ 27) : 2 ^ 23 ≤ exactSignificand n := by
  obtain ⟨hlo, -⟩ := (centiBinade_eq_iff h0 _).1 rfl
  have hp := two_pow_binade_mul hn
  have hscaled : 2 ^ 23 * 100 ≤ n * 2 ^ (30 - centiBinade n) := by
    have := Nat.mul_le_mul_right (2 ^ (30 - centiBinade n)) hlo
    linarith
  have hq : (2 : ℚ) ^ 23 * 100 ≤ (n * 2 ^ (30 - centiBinade n) : ℕ) := by exact_mod_cast hscaled
  unfold exactSignificand
  linarith

theorem binary32Value_f32OfCenti_eq_ulps {n : ℕ} (hn : n < 2 ^ 27) :
    binary32Value (f32OfCenti n) = ((centiSignificand n : ℤ) : ℚ) * centiUlp (centiBinade n) := by
  rw [binary32Value_f32OfCenti hn, centiUlp]
  push_cast
  ring

theorem roundDivEven_of_multiple (q : ℕ) : roundDivEven (100 * q) 100 = q := by
  have := roundDivEven_hundred_spec (100 * q)
  omega

/-- A multiple of 25 is exact: `n / 100` is then a quarter of a whole number. -/
theorem binary32Value_f32OfCenti_of_exact {n : ℕ} (hn : n < 2 ^ 27) (h : n % 25 = 0) :
    binary32Value (f32OfCenti n) = n / 100 := by
  have hj := centiBinade_lt hn
  have hscaled : 100 * centiSignificand n = n * 2 ^ (30 - centiBinade n) := by
    have hpow : 2 ^ (30 - centiBinade n) = 4 * 2 ^ (28 - centiBinade n) := by
      rw [show 30 - centiBinade n = 28 - centiBinade n + 2 by omega, pow_add]
      ring
    have hmul : n * 2 ^ (30 - centiBinade n) = 100 * (n / 25 * 2 ^ (28 - centiBinade n)) := by
      rw [hpow]
      nth_rewrite 1 [← Nat.div_mul_cancel (Nat.dvd_of_mod_eq_zero h)]
      ring
    rw [centiSignificand, hmul, roundDivEven_of_multiple]
  have hq : 100 * (centiSignificand n : ℚ) = (n * 2 ^ (30 - centiBinade n) : ℕ) := by exact_mod_cast hscaled
  have hexact : ((centiSignificand n : ℤ) : ℚ) = exactSignificand n := by
    rw [exactSignificand, Int.cast_natCast]
    linarith
  rw [binary32Value_f32OfCenti_eq_ulps hn, hexact, exactSignificand_mul_ulp hn]

/-- Every other value is strictly further from lux: another multiple of the unit because rounding is to the nearest, and a
value below the binade because the binade's lowest is nearer. -/
theorem f32OfCenti_strictly_nearer {n : ℕ} (hn : n < 2 ^ 27) {x : Word32}
    (hne : binary32Value x ≠ binary32Value (f32OfCenti n)) :
    |binary32Value (f32OfCenti n) - n / 100| < |binary32Value x - n / 100| := by
  rcases eq_or_ne n 0 with rfl | h0
  · have hv := binary32Value_f32OfCenti_of_exact hn (Nat.zero_mod 25)
    rw [hv] at hne ⊢
    rw [sub_self, abs_zero]
    exact abs_pos.2 (sub_ne_zero.2 hne)
  have hu := centiUlp_pos (centiBinade n)
  have hnear := centiSignificand_near hn
  rw [binary32Value_f32OfCenti_eq_ulps hn] at hne ⊢
  rw [← exactSignificand_mul_ulp hn]
  rcases binary32Value_multiple_or_below (centiBinade n) x with ⟨m, hm⟩ | hbelow
  · rw [hm] at hne ⊢
    exact multiple_strictly_nearer hu hnear fun h => hne (by rw [h])
  · have hlow := mul_le_mul_of_nonneg_right (le_exactSignificand h0 hn) hu.le
    have hedge : |((centiSignificand n : ℤ) : ℚ) * centiUlp (centiBinade n) - exactSignificand n * centiUlp (centiBinade n)|
        ≤ |((2 ^ 23 : ℤ) : ℚ) * centiUlp (centiBinade n) - exactSignificand n * centiUlp (centiBinade n)| := by
      rcases eq_or_ne (2 ^ 23 : ℤ) (centiSignificand n) with heq | hne23
      · rw [heq]
      · exact (multiple_strictly_nearer hu hnear hne23).le
    rw [Int.cast_pow, Int.cast_ofNat, abs_of_nonpos (sub_nonpos.2 hlow)] at hedge
    rw [abs_lt] at hbelow
    exact hedge.trans_lt (lt_abs.2 (.inr (by linarith)))

/-! ## The range of LUX_F32 (R147) -/

theorem f32OfCenti_toNat {n : ℕ} (h0 : n ≠ 0) (hn : n < 2 ^ 27) :
    (f32OfCenti n).toNat = (centiBinade n + 119) * 2 ^ 23 + centiSignificand n := by
  obtain ⟨-, hhi⟩ := centiSignificand_bounds h0 hn
  have hj := centiBinade_lt hn
  rw [f32OfCenti_of_ne_zero h0, BitVec.toNat_ofNat, Nat.mod_eq_of_lt]
  omega

/-- As a bit pattern too LUX_F32 does not fall where `centi` rises. -/
theorem f32OfCenti_toNat_mono {a b : ℕ} (ha : a ≠ 0) (hab : a ≤ b) (hb : b < 2 ^ 27) :
    (f32OfCenti a).toNat ≤ (f32OfCenti b).toNat := by
  have ha27 : a < 2 ^ 27 := by omega
  have hb0 : b ≠ 0 := by omega
  rw [f32OfCenti_toNat ha ha27, f32OfCenti_toNat hb0 hb]
  rcases (centiBinade_mono hab).eq_or_lt with hj | hj
  · rw [← hj, centiSignificand, centiSignificand, ← hj]
    exact Nat.add_le_add_left (roundDivEven_hundred_mono (Nat.mul_le_mul_right _ hab)) _
  · have hhi := (centiSignificand_bounds ha ha27).2
    have hlo := (centiSignificand_bounds hb0 hb).1
    omega

theorem centiNat_eq_zero_iff (w : Word16) : centiNat w = 0 ↔ mantOf w = 0#12 := by
  rw [centiNat, Nat.shiftLeft_eq, Nat.mul_eq_zero, or_iff_left (by positivity), ← BitVec.toNat_inj]
  rfl

/-- The smallest and the largest nonzero `centi` give the ends of the range. -/
theorem f32Of_range {w : Word16} (h : mantOf w ≠ 0#12) :
    0x3C23D70A ≤ (f32Of w).toNat ∧ (f32Of w).toNat ≤ 0x49A3CCCD := by
  have h0 : centiNat w ≠ 0 := (centiNat_eq_zero_iff w).not.2 h
  constructor
  · exact f32OfCenti_toNat_mono (a := 1) (by omega) (by omega) (centiNat_lt_two_pow w)
  · exact f32OfCenti_toNat_mono h0 (centiNat_le w) (by norm_num)

theorem f32Of_eq_zero_iff (w : Word16) : f32Of w = 0x00000000#32 ↔ mantOf w = 0#12 := by
  constructor
  · intro hf
    by_contra hm
    have hlo := (f32Of_range hm).1
    rw [hf] at hlo
    exact absurd hlo (by decide)
  · intro hm
    rw [f32Of, (centiNat_eq_zero_iff w).2 hm]
    rfl

/-- Settles O58: no other value is as near, and the range and the exact cases follow from the integer algorithm's. -/
theorem luxF32IsTheNearestBinary32 : Obligations.LuxF32IsTheNearestBinary32 := by
  unfold Obligations.LuxF32IsTheNearestBinary32
  intro w
  have hn := centiNat_lt_two_pow w
  rw [luxOf_eq_centiNat_div, centiOf_toNat]
  refine ⟨fun x _ => ?_, f32Of_eq_zero_iff w, f32Of_range, binary32Value_f32OfCenti_of_exact hn⟩
  by_cases hx : binary32Value x = binary32Value (f32Of w)
  · exact ⟨by rw [hx], fun _ => hx⟩
  · have hlt := f32OfCenti_strictly_nearer hn hx
    exact ⟨hlt.le, fun heq => absurd heq hlt.ne⟩

/-! ## The field accessors (R154) -/

theorem one_shiftLeft_eq_ofNat (l : ℕ) : (1#16 <<< l) = BitVec.ofNat 16 (2 ^ l) := by
  rw [← BitVec.twoPow_eq]
  apply BitVec.eq_of_toNat_eq
  rw [BitVec.toNat_twoPow, BitVec.toNat_ofNat]

/-- As many ones as the field is wide. -/
theorem ones_getLsbD (l n : ℕ) : ((1#16 <<< l) - 1#16).getLsbD n = (decide (n < 16) && decide (n < l)) := by
  rw [one_shiftLeft_eq_ofNat, BitVec.ofNat_sub_ofNat_of_le _ 1 (by norm_num) Nat.one_le_two_pow, BitVec.getLsbD_ofNat,
    Nat.testBit_two_pow_sub_one]

section
variable {f : WordField} (hlo : f.lo ≤ f.hi) (hhi : f.hi ≤ 15)
include hlo hhi

/-- The mask has ones exactly in the field. -/
theorem fieldMask_getLsbD (n : ℕ) : (fieldMask f).getLsbD n = decide (f.lo ≤ n ∧ n ≤ f.hi) := by
  rw [fieldMask, BitVec.getLsbD_shiftLeft, ones_getLsbD, Bool.eq_iff_iff]
  simp only [Bool.and_eq_true, Bool.not_eq_true', decide_eq_true_eq, decide_eq_false_iff_not]
  omega

theorem getField_toNat (w : Word16) : (getField f w).toNat = w.toNat / 2 ^ f.lo % 2 ^ (f.hi - f.lo + 1) := by
  rw [getField, BitVec.zeroExtend, BitVec.toNat_setWidth_of_le (by omega), BitVec.extractLsb'_toNat,
    Nat.shiftRight_eq_div_pow]

theorem setField_getLsbD_outside (w x : Word16) {n : ℕ} (hn : n < f.lo ∨ f.hi < n) :
    (setField f w x).getLsbD n = w.getLsbD n := by
  have hmask : (fieldMask f).getLsbD n = false := by
    rw [fieldMask_getLsbD hlo hhi, decide_eq_false_iff_not]
    omega
  by_cases h16 : n < 16
  · simp only [setField, BitVec.getLsbD_or, BitVec.getLsbD_and, BitVec.getLsbD_not, hmask, h16, decide_true,
      Bool.not_false, Bool.and_true, Bool.and_false, Bool.or_false]
  · simp [BitVec.getLsbD_of_ge _ n (Nat.not_lt.1 h16)]

theorem setField_getLsbD_inside (w x : Word16) {n : ℕ} (hn : n < f.hi - f.lo + 1) :
    (setField f w x).getLsbD (f.lo + n) = x.getLsbD n := by
  have hmask : (fieldMask f).getLsbD (f.lo + n) = true := by
    rw [fieldMask_getLsbD hlo hhi, decide_eq_true_eq]
    omega
  simp only [setField, BitVec.getLsbD_or, BitVec.getLsbD_and, BitVec.getLsbD_not, BitVec.getLsbD_shiftLeft, hmask,
    show f.lo + n < 16 by omega, show ¬f.lo + n < f.lo by omega, Nat.add_sub_cancel_left, decide_true, decide_false,
    Bool.true_and, Bool.not_true, Bool.not_false, Bool.and_true, Bool.and_false, Bool.false_or]

/-- A get after a set is the value cut to the field's width: bit by bit the set put it there. -/
theorem getField_setField_toNat (w x : Word16) :
    (getField f (setField f w x)).toNat = x.toNat % 2 ^ (f.hi - f.lo + 1) := by
  rw [getField_toNat hlo hhi]
  apply Nat.eq_of_testBit_eq
  intro n
  rw [Nat.testBit_mod_two_pow, Nat.testBit_mod_two_pow, Nat.testBit_div_two_pow, BitVec.testBit_toNat,
    BitVec.testBit_toNat]
  by_cases hn : n < f.hi - f.lo + 1
  · rw [Nat.add_comm n, setField_getLsbD_inside hlo hhi w x hn]
  · simp [hn]

end

/-- Settles O60: a get is a slice, and a set differs from the old word in the mask's bits only. -/
theorem fieldAccessorsReadAndWriteOneField : Obligations.FieldAccessorsReadAndWriteOneField := by
  unfold Obligations.FieldAccessorsReadAndWriteOneField
  exact fun f w x hlo hhi => ⟨getField_toNat hlo hhi w, getField_setField_toNat hlo hhi w x,
    fun n hn => setField_getLsbD_outside hlo hhi w x hn⟩

end Sys2Proof.Machine
end
